-- ==== Sys2Proof/Word.lean ====
section
/-! DEFINITION. The widths of the machine: bytes and control words (00_scope R7, R11). -/

namespace Sys2Proof

/-- The value of a register, of the bus, of a memory cell and of an address (00_scope R7: XLEN = ALEN = 8). -/
abbrev Byte := BitVec 8

/-- A control word: bit `i` is control line `i` (00_scope R7: CW_WIDTH = 32; 40_cycle R130). -/
abbrev CtrlWord := BitVec 32

/-- A micro-program: an ordered list of control words (00_scope R14). -/
abbrev MicroProgram := List CtrlWord

end Sys2Proof
end

