-- ==== Sys2Proof/Syntax.lean ====
section
/-! DEFINITION. The syntax of the machine: its instructions, one constructor for each row of spec/opcode_table.json,
and the names the rules use for registers, bus components, control lines and ALU operations. -/

namespace Sys2Proof

/-- The ten registers (10_state R22). -/
inductive Reg where
  | a | b | x | pc | sp | ir | opd | mar | alu | flg
  deriving DecidableEq, Repr

/-- The eleven components that can be marked for the bus: the registers and the memory (10_state R20, R41). -/
inductive Component where
  | reg (r : Reg)
  | mem
  deriving DecidableEq, Repr

/-- What reads the bus: a component, or the output line (60_exceptions R313). -/
inductive BusReader where
  | component (c : Component)
  | outLine
  deriving DecidableEq, Repr

/-- The eight ALU operations (10_state R31; 43_alu_binary R210). -/
inductive AluOp where
  | add | sub | or | xor | and | not | shiftLeft | shiftRight
  deriving DecidableEq, Repr

/-- The 32 control lines, in ascending bit number (40_cycle R130). -/
inductive Line where
  | hlt | rst | mai | mi | mo | ii | oi | oo | pco | pci | pcp | pcm | ai | ao | bi | bo
  | xi | xo | x1 | spo | spp | spm | spr | alo | sub | or | xor | and | not | shl | shr | out
  deriving DecidableEq, Repr

/-- The five operand sources of the binary ALU family, in the order of the low nibble (43_alu_binary R239). -/
inductive AluSource where
  | regB | regX | memN | memB | memX
  deriving DecidableEq, Repr

/-- The instructions: one constructor for each opcode byte. Every instruction has an operand byte (30_encoding R100);
the constructor carries it where the micro-program uses it (R102). Where it is ignored it is no part of the
instruction: the fetch program still puts it into OPD (40_cycle R136). -/
inductive Instr where
  /-- 0x00 `noop` (R300) -/
  | noop
  /-- 0x01 `halt` (R301) -/
  | halt
  | unassigned02
  | unassigned03
  | unassigned04
  | unassigned05
  | unassigned06
  | unassigned07
  | unassigned08
  | unassigned09
  | unassigned0A
  | unassigned0B
  | unassigned0C
  | unassigned0D
  | unassigned0E
  | unassigned0F
  /-- 0x10 `load N -> a` (R180) -/
  | loadLitA (n : Byte)
  /-- 0x11 `load N -> b` (R181) -/
  | loadLitB (n : Byte)
  /-- 0x12 `load $N -> a` (R182) -/
  | loadMemA (n : Byte)
  /-- 0x13 `load $N -> b` (R183) -/
  | loadMemB (n : Byte)
  | unassigned14
  | unassigned15
  | unassigned16
  | unassigned17
  | unassigned18
  | unassigned19
  | unassigned1A
  | unassigned1B
  | unassigned1C
  | unassigned1D
  | unassigned1E
  | unassigned1F
  /-- 0x20 `store a -> $N` (R190) -/
  | storeA (n : Byte)
  /-- 0x21 `store b -> $N` (R191) -/
  | storeB (n : Byte)
  | unassigned22
  /-- 0x23 `move a,b` (R192) -/
  | moveAB
  /-- 0x24 `move a,x` (R193) -/
  | moveAX
  /-- 0x25 `move b,a` (R194) -/
  | moveBA
  /-- 0x26 `move b,x` (R195) -/
  | moveBX
  /-- 0x27 `move x,a` (R196) -/
  | moveXA
  /-- 0x28 `move x,b` (R197) -/
  | moveXB
  /-- 0x29 `swap` (R198) -/
  | swap
  | unassigned2A
  | unassigned2B
  | unassigned2C
  | unassigned2D
  | unassigned2E
  | unassigned2F
  /-- 0x30 `add B` (R212) -/
  | addB
  /-- 0x31 `add X` (R213) -/
  | addX
  /-- 0x32 `add $N` (R214) -/
  | addMemN (n : Byte)
  /-- 0x33 `add $B` (R215) -/
  | addMemB
  /-- 0x34 `add $X` (R216) -/
  | addMemX
  | unassigned35
  | unassigned36
  | unassigned37
  | unassigned38
  | unassigned39
  | unassigned3A
  | unassigned3B
  | unassigned3C
  | unassigned3D
  | unassigned3E
  | unassigned3F
  /-- 0x40 `sub B` (R217) -/
  | subB
  /-- 0x41 `sub X` (R218) -/
  | subX
  /-- 0x42 `sub $N` (R219) -/
  | subMemN (n : Byte)
  /-- 0x43 `sub $B` (R220) -/
  | subMemB
  /-- 0x44 `sub $X` (R221) -/
  | subMemX
  | unassigned45
  | unassigned46
  | unassigned47
  | unassigned48
  | unassigned49
  | unassigned4A
  | unassigned4B
  | unassigned4C
  | unassigned4D
  | unassigned4E
  | unassigned4F
  /-- 0x50 `or B` (R222) -/
  | orB
  /-- 0x51 `or X` (R223) -/
  | orX
  /-- 0x52 `or $N` (R224) -/
  | orMemN (n : Byte)
  /-- 0x53 `or $B` (R225) -/
  | orMemB
  /-- 0x54 `or $X` (R226) -/
  | orMemX
  | unassigned55
  | unassigned56
  | unassigned57
  | unassigned58
  | unassigned59
  | unassigned5A
  | unassigned5B
  | unassigned5C
  | unassigned5D
  | unassigned5E
  | unassigned5F
  /-- 0x60 `xor B` (R227) -/
  | xorB
  /-- 0x61 `xor X` (R228) -/
  | xorX
  /-- 0x62 `xor $N` (R229) -/
  | xorMemN (n : Byte)
  /-- 0x63 `xor $B` (R230) -/
  | xorMemB
  /-- 0x64 `xor $X` (R231) -/
  | xorMemX
  | unassigned65
  | unassigned66
  | unassigned67
  | unassigned68
  | unassigned69
  | unassigned6A
  | unassigned6B
  | unassigned6C
  | unassigned6D
  | unassigned6E
  | unassigned6F
  /-- 0x70 `and B` (R232) -/
  | andB
  /-- 0x71 `and X` (R233) -/
  | andX
  /-- 0x72 `and $N` (R234) -/
  | andMemN (n : Byte)
  /-- 0x73 `and $B` (R235) -/
  | andMemB
  /-- 0x74 `and $X` (R236) -/
  | andMemX
  | unassigned75
  | unassigned76
  | unassigned77
  | unassigned78
  | unassigned79
  | unassigned7A
  | unassigned7B
  | unassigned7C
  | unassigned7D
  | unassigned7E
  | unassigned7F
  | unassigned80
  /-- 0x81 `not` (R250) -/
  | notA
  /-- 0x82 `bitsl` (R251) -/
  | bitsl
  /-- 0x83 `bitsr` (R252) -/
  | bitsr
  /-- 0x84 `inc` (R253) -/
  | inc
  /-- 0x85 `dec` (R254) -/
  | dec
  | unassigned86
  | unassigned87
  | unassigned88
  | unassigned89
  | unassigned8A
  | unassigned8B
  | unassigned8C
  | unassigned8D
  | unassigned8E
  | unassigned8F
  /-- 0x90 `out cmd N` (R261) -/
  | outCmd (n : Byte)
  /-- 0x91 `out addr N` (R262) -/
  | outAddr (n : Byte)
  /-- 0x92 `out dat N` (R263) -/
  | outDat (n : Byte)
  /-- 0x93 `out dat $N` (R264) -/
  | outDatMem (n : Byte)
  | unassigned94
  | unassigned95
  | unassigned96
  | unassigned97
  | unassigned98
  | unassigned99
  | unassigned9A
  | unassigned9B
  | unassigned9C
  | unassigned9D
  | unassigned9E
  | unassigned9F
  /-- 0xA0 `jmp N` (R272) -/
  | jmp (n : Byte)
  /-- 0xA1 `jmpc N` (R273) -/
  | jmpc (n : Byte)
  /-- 0xA2 `jmpnc N` (R274) -/
  | jmpnc (n : Byte)
  /-- 0xA3 `jmpz N` (R275) -/
  | jmpz (n : Byte)
  /-- 0xA4 `jmpnz N` (R276) -/
  | jmpnz (n : Byte)
  /-- 0xA5 `jmpp N` (R277) -/
  | jmpp (n : Byte)
  /-- 0xA6 `jmpnp N` (R278) -/
  | jmpnp (n : Byte)
  /-- 0xA7 `call N` (R279) -/
  | call (n : Byte)
  /-- 0xA8 `return` (R280) -/
  | ret
  | unassignedA9
  | unassignedAA
  | unassignedAB
  | unassignedAC
  | unassignedAD
  | unassignedAE
  | unassignedAF
  /-- 0xB0 `push a` (R290) -/
  | pushA
  /-- 0xB1 `push b` (R291) -/
  | pushB
  /-- 0xB2 `pop a` (R292) -/
  | popA
  /-- 0xB3 `pop b` (R293) -/
  | popB
  /-- 0xB4 `stkrest` (R294) -/
  | stkrest
  | unassignedB5
  | unassignedB6
  | unassignedB7
  | unassignedB8
  | unassignedB9
  | unassignedBA
  | unassignedBB
  | unassignedBC
  | unassignedBD
  | unassignedBE
  | unassignedBF
  | unassignedC0
  | unassignedC1
  | unassignedC2
  | unassignedC3
  | unassignedC4
  | unassignedC5
  | unassignedC6
  | unassignedC7
  | unassignedC8
  | unassignedC9
  | unassignedCA
  | unassignedCB
  | unassignedCC
  | unassignedCD
  | unassignedCE
  | unassignedCF
  | unassignedD0
  | unassignedD1
  | unassignedD2
  | unassignedD3
  | unassignedD4
  | unassignedD5
  | unassignedD6
  | unassignedD7
  | unassignedD8
  | unassignedD9
  | unassignedDA
  | unassignedDB
  | unassignedDC
  | unassignedDD
  | unassignedDE
  | unassignedDF
  | unassignedE0
  | unassignedE1
  | unassignedE2
  | unassignedE3
  | unassignedE4
  | unassignedE5
  | unassignedE6
  | unassignedE7
  | unassignedE8
  | unassignedE9
  | unassignedEA
  | unassignedEB
  | unassignedEC
  | unassignedED
  | unassignedEE
  | unassignedEF
  | unassignedF0
  | unassignedF1
  | unassignedF2
  | unassignedF3
  | unassignedF4
  | unassignedF5
  | unassignedF6
  | unassignedF7
  | unassignedF8
  | unassignedF9
  | unassignedFA
  | unassignedFB
  | unassignedFC
  | unassignedFD
  | unassignedFE
  | unassignedFF
  deriving DecidableEq, Repr

end Sys2Proof
end

