-- ==== Sys2Proof/Decode.lean ====
section
/-! DEFINITION. Decoding of instruction bytes (30_encoding R100 to R113), total on any bytes, and after it the encoder.
The opcode map is read as the spec writes it: the high nibble selects the family (R103), the low nibble the member. -/

namespace Sys2Proof

/-- Why bytes are no instruction: every opcode byte decodes (30_encoding R112), so only too few bytes. -/
inductive DecodeError where
  /-- fewer than the two bytes every instruction has (30_encoding R100) -/
  | truncated (given : Nat)
  deriving DecidableEq, Repr

/-- 0x0_: high nibble 0: noop, halt (30_encoding R111, R112); `lo` is the low nibble. -/
def decodeMisc (lo : Nat) : Instr :=
  match lo with
  | 0x0 => .noop
  | 0x1 => .halt
  | 0x2 => .unassigned02
  | 0x3 => .unassigned03
  | 0x4 => .unassigned04
  | 0x5 => .unassigned05
  | 0x6 => .unassigned06
  | 0x7 => .unassigned07
  | 0x8 => .unassigned08
  | 0x9 => .unassigned09
  | 0xA => .unassigned0A
  | 0xB => .unassigned0B
  | 0xC => .unassigned0C
  | 0xD => .unassigned0D
  | 0xE => .unassigned0E
  | _ => .unassigned0F

/-- 0x1_: the load family (30_encoding R104, R112); `lo` is the low nibble. -/
def decodeLoad (lo : Nat) (n : Byte) : Instr :=
  match lo with
  | 0x0 => .loadLitA n
  | 0x1 => .loadLitB n
  | 0x2 => .loadMemA n
  | 0x3 => .loadMemB n
  | 0x4 => .unassigned14
  | 0x5 => .unassigned15
  | 0x6 => .unassigned16
  | 0x7 => .unassigned17
  | 0x8 => .unassigned18
  | 0x9 => .unassigned19
  | 0xA => .unassigned1A
  | 0xB => .unassigned1B
  | 0xC => .unassigned1C
  | 0xD => .unassigned1D
  | 0xE => .unassigned1E
  | _ => .unassigned1F

/-- 0x2_: the store and move family (30_encoding R105, R112); `lo` is the low nibble. -/
def decodeStoreMove (lo : Nat) (n : Byte) : Instr :=
  match lo with
  | 0x0 => .storeA n
  | 0x1 => .storeB n
  | 0x2 => .unassigned22
  | 0x3 => .moveAB
  | 0x4 => .moveAX
  | 0x5 => .moveBA
  | 0x6 => .moveBX
  | 0x7 => .moveXA
  | 0x8 => .moveXB
  | 0x9 => .swap
  | 0xA => .unassigned2A
  | 0xB => .unassigned2B
  | 0xC => .unassigned2C
  | 0xD => .unassigned2D
  | 0xE => .unassigned2E
  | _ => .unassigned2F

/-- 0x3_: add (30_encoding R106, R112); `lo` is the low nibble. -/
def decodeAdd (lo : Nat) (n : Byte) : Instr :=
  match lo with
  | 0x0 => .addB
  | 0x1 => .addX
  | 0x2 => .addMemN n
  | 0x3 => .addMemB
  | 0x4 => .addMemX
  | 0x5 => .unassigned35
  | 0x6 => .unassigned36
  | 0x7 => .unassigned37
  | 0x8 => .unassigned38
  | 0x9 => .unassigned39
  | 0xA => .unassigned3A
  | 0xB => .unassigned3B
  | 0xC => .unassigned3C
  | 0xD => .unassigned3D
  | 0xE => .unassigned3E
  | _ => .unassigned3F

/-- 0x4_: sub (30_encoding R106, R112); `lo` is the low nibble. -/
def decodeSub (lo : Nat) (n : Byte) : Instr :=
  match lo with
  | 0x0 => .subB
  | 0x1 => .subX
  | 0x2 => .subMemN n
  | 0x3 => .subMemB
  | 0x4 => .subMemX
  | 0x5 => .unassigned45
  | 0x6 => .unassigned46
  | 0x7 => .unassigned47
  | 0x8 => .unassigned48
  | 0x9 => .unassigned49
  | 0xA => .unassigned4A
  | 0xB => .unassigned4B
  | 0xC => .unassigned4C
  | 0xD => .unassigned4D
  | 0xE => .unassigned4E
  | _ => .unassigned4F

/-- 0x5_: or (30_encoding R106, R112); `lo` is the low nibble. -/
def decodeOr (lo : Nat) (n : Byte) : Instr :=
  match lo with
  | 0x0 => .orB
  | 0x1 => .orX
  | 0x2 => .orMemN n
  | 0x3 => .orMemB
  | 0x4 => .orMemX
  | 0x5 => .unassigned55
  | 0x6 => .unassigned56
  | 0x7 => .unassigned57
  | 0x8 => .unassigned58
  | 0x9 => .unassigned59
  | 0xA => .unassigned5A
  | 0xB => .unassigned5B
  | 0xC => .unassigned5C
  | 0xD => .unassigned5D
  | 0xE => .unassigned5E
  | _ => .unassigned5F

/-- 0x6_: xor (30_encoding R106, R112); `lo` is the low nibble. -/
def decodeXor (lo : Nat) (n : Byte) : Instr :=
  match lo with
  | 0x0 => .xorB
  | 0x1 => .xorX
  | 0x2 => .xorMemN n
  | 0x3 => .xorMemB
  | 0x4 => .xorMemX
  | 0x5 => .unassigned65
  | 0x6 => .unassigned66
  | 0x7 => .unassigned67
  | 0x8 => .unassigned68
  | 0x9 => .unassigned69
  | 0xA => .unassigned6A
  | 0xB => .unassigned6B
  | 0xC => .unassigned6C
  | 0xD => .unassigned6D
  | 0xE => .unassigned6E
  | _ => .unassigned6F

/-- 0x7_: and (30_encoding R106, R112); `lo` is the low nibble. -/
def decodeAnd (lo : Nat) (n : Byte) : Instr :=
  match lo with
  | 0x0 => .andB
  | 0x1 => .andX
  | 0x2 => .andMemN n
  | 0x3 => .andMemB
  | 0x4 => .andMemX
  | 0x5 => .unassigned75
  | 0x6 => .unassigned76
  | 0x7 => .unassigned77
  | 0x8 => .unassigned78
  | 0x9 => .unassigned79
  | 0xA => .unassigned7A
  | 0xB => .unassigned7B
  | 0xC => .unassigned7C
  | 0xD => .unassigned7D
  | 0xE => .unassigned7E
  | _ => .unassigned7F

/-- 0x8_: the unary ALU family (30_encoding R107, R112); `lo` is the low nibble. -/
def decodeUnary (lo : Nat) : Instr :=
  match lo with
  | 0x0 => .unassigned80
  | 0x1 => .notA
  | 0x2 => .bitsl
  | 0x3 => .bitsr
  | 0x4 => .inc
  | 0x5 => .dec
  | 0x6 => .unassigned86
  | 0x7 => .unassigned87
  | 0x8 => .unassigned88
  | 0x9 => .unassigned89
  | 0xA => .unassigned8A
  | 0xB => .unassigned8B
  | 0xC => .unassigned8C
  | 0xD => .unassigned8D
  | 0xE => .unassigned8E
  | _ => .unassigned8F

/-- 0x9_: the output family (30_encoding R108, R112); `lo` is the low nibble. -/
def decodeOutput (lo : Nat) (n : Byte) : Instr :=
  match lo with
  | 0x0 => .outCmd n
  | 0x1 => .outAddr n
  | 0x2 => .outDat n
  | 0x3 => .outDatMem n
  | 0x4 => .unassigned94
  | 0x5 => .unassigned95
  | 0x6 => .unassigned96
  | 0x7 => .unassigned97
  | 0x8 => .unassigned98
  | 0x9 => .unassigned99
  | 0xA => .unassigned9A
  | 0xB => .unassigned9B
  | 0xC => .unassigned9C
  | 0xD => .unassigned9D
  | 0xE => .unassigned9E
  | _ => .unassigned9F

/-- 0xA_: jumps, call and return (30_encoding R109, R112); `lo` is the low nibble. -/
def decodeJump (lo : Nat) (n : Byte) : Instr :=
  match lo with
  | 0x0 => .jmp n
  | 0x1 => .jmpc n
  | 0x2 => .jmpnc n
  | 0x3 => .jmpz n
  | 0x4 => .jmpnz n
  | 0x5 => .jmpp n
  | 0x6 => .jmpnp n
  | 0x7 => .call n
  | 0x8 => .ret
  | 0x9 => .unassignedA9
  | 0xA => .unassignedAA
  | 0xB => .unassignedAB
  | 0xC => .unassignedAC
  | 0xD => .unassignedAD
  | 0xE => .unassignedAE
  | _ => .unassignedAF

/-- 0xB_: the stack family (30_encoding R110, R112); `lo` is the low nibble. -/
def decodeStack (lo : Nat) : Instr :=
  match lo with
  | 0x0 => .pushA
  | 0x1 => .pushB
  | 0x2 => .popA
  | 0x3 => .popB
  | 0x4 => .stkrest
  | 0x5 => .unassignedB5
  | 0x6 => .unassignedB6
  | 0x7 => .unassignedB7
  | 0x8 => .unassignedB8
  | 0x9 => .unassignedB9
  | 0xA => .unassignedBA
  | 0xB => .unassignedBB
  | 0xC => .unassignedBC
  | 0xD => .unassignedBD
  | 0xE => .unassignedBE
  | _ => .unassignedBF

/-- 0xC_: 0xC0 to 0xCF, all unassigned (30_encoding R112, R112); `lo` is the low nibble. -/
def decodeRowC (lo : Nat) : Instr :=
  match lo with
  | 0x0 => .unassignedC0
  | 0x1 => .unassignedC1
  | 0x2 => .unassignedC2
  | 0x3 => .unassignedC3
  | 0x4 => .unassignedC4
  | 0x5 => .unassignedC5
  | 0x6 => .unassignedC6
  | 0x7 => .unassignedC7
  | 0x8 => .unassignedC8
  | 0x9 => .unassignedC9
  | 0xA => .unassignedCA
  | 0xB => .unassignedCB
  | 0xC => .unassignedCC
  | 0xD => .unassignedCD
  | 0xE => .unassignedCE
  | _ => .unassignedCF

/-- 0xD_: 0xD0 to 0xDF, all unassigned (30_encoding R112, R112); `lo` is the low nibble. -/
def decodeRowD (lo : Nat) : Instr :=
  match lo with
  | 0x0 => .unassignedD0
  | 0x1 => .unassignedD1
  | 0x2 => .unassignedD2
  | 0x3 => .unassignedD3
  | 0x4 => .unassignedD4
  | 0x5 => .unassignedD5
  | 0x6 => .unassignedD6
  | 0x7 => .unassignedD7
  | 0x8 => .unassignedD8
  | 0x9 => .unassignedD9
  | 0xA => .unassignedDA
  | 0xB => .unassignedDB
  | 0xC => .unassignedDC
  | 0xD => .unassignedDD
  | 0xE => .unassignedDE
  | _ => .unassignedDF

/-- 0xE_: 0xE0 to 0xEF, all unassigned (30_encoding R112, R112); `lo` is the low nibble. -/
def decodeRowE (lo : Nat) : Instr :=
  match lo with
  | 0x0 => .unassignedE0
  | 0x1 => .unassignedE1
  | 0x2 => .unassignedE2
  | 0x3 => .unassignedE3
  | 0x4 => .unassignedE4
  | 0x5 => .unassignedE5
  | 0x6 => .unassignedE6
  | 0x7 => .unassignedE7
  | 0x8 => .unassignedE8
  | 0x9 => .unassignedE9
  | 0xA => .unassignedEA
  | 0xB => .unassignedEB
  | 0xC => .unassignedEC
  | 0xD => .unassignedED
  | 0xE => .unassignedEE
  | _ => .unassignedEF

/-- 0xF_: 0xF0 to 0xFF, all unassigned (30_encoding R112, R112); `lo` is the low nibble. -/
def decodeRowF (lo : Nat) : Instr :=
  match lo with
  | 0x0 => .unassignedF0
  | 0x1 => .unassignedF1
  | 0x2 => .unassignedF2
  | 0x3 => .unassignedF3
  | 0x4 => .unassignedF4
  | 0x5 => .unassignedF5
  | 0x6 => .unassignedF6
  | 0x7 => .unassignedF7
  | 0x8 => .unassignedF8
  | 0x9 => .unassignedF9
  | 0xA => .unassignedFA
  | 0xB => .unassignedFB
  | 0xC => .unassignedFC
  | 0xD => .unassignedFD
  | 0xE => .unassignedFE
  | _ => .unassignedFF

/-- The instruction of an opcode byte and an operand byte: total, since every pair is an instruction
(30_encoding R103, R112, R113). -/
def decodePair (op n : Byte) : Instr :=
  match op.toNat / 16 with
  | 0x0 => decodeMisc (op.toNat % 16)
  | 0x1 => decodeLoad (op.toNat % 16) n
  | 0x2 => decodeStoreMove (op.toNat % 16) n
  | 0x3 => decodeAdd (op.toNat % 16) n
  | 0x4 => decodeSub (op.toNat % 16) n
  | 0x5 => decodeOr (op.toNat % 16) n
  | 0x6 => decodeXor (op.toNat % 16) n
  | 0x7 => decodeAnd (op.toNat % 16) n
  | 0x8 => decodeUnary (op.toNat % 16)
  | 0x9 => decodeOutput (op.toNat % 16) n
  | 0xA => decodeJump (op.toNat % 16) n
  | 0xB => decodeStack (op.toNat % 16)
  | 0xC => decodeRowC (op.toNat % 16)
  | 0xD => decodeRowD (op.toNat % 16)
  | 0xE => decodeRowE (op.toNat % 16)
  | _ => decodeRowF (op.toNat % 16)

/-- Reads one instruction off a byte stream, opcode byte first (30_encoding R100; 20_memory R74), and answers it with
the bytes after it. -/
def decode (bytes : List Byte) : Except DecodeError (Instr × List Byte) :=
  match bytes with
  | op :: n :: rest => .ok (decodePair op n, rest)
  | short => .error (.truncated short.length)

/-- The opcode byte of an instruction (30_encoding R104 to R112). -/
def Instr.opcode (i : Instr) : Byte :=
  match i with
  | .noop => 0x00#8
  | .halt => 0x01#8
  | .unassigned02 => 0x02#8
  | .unassigned03 => 0x03#8
  | .unassigned04 => 0x04#8
  | .unassigned05 => 0x05#8
  | .unassigned06 => 0x06#8
  | .unassigned07 => 0x07#8
  | .unassigned08 => 0x08#8
  | .unassigned09 => 0x09#8
  | .unassigned0A => 0x0A#8
  | .unassigned0B => 0x0B#8
  | .unassigned0C => 0x0C#8
  | .unassigned0D => 0x0D#8
  | .unassigned0E => 0x0E#8
  | .unassigned0F => 0x0F#8
  | .loadLitA _ => 0x10#8
  | .loadLitB _ => 0x11#8
  | .loadMemA _ => 0x12#8
  | .loadMemB _ => 0x13#8
  | .unassigned14 => 0x14#8
  | .unassigned15 => 0x15#8
  | .unassigned16 => 0x16#8
  | .unassigned17 => 0x17#8
  | .unassigned18 => 0x18#8
  | .unassigned19 => 0x19#8
  | .unassigned1A => 0x1A#8
  | .unassigned1B => 0x1B#8
  | .unassigned1C => 0x1C#8
  | .unassigned1D => 0x1D#8
  | .unassigned1E => 0x1E#8
  | .unassigned1F => 0x1F#8
  | .storeA _ => 0x20#8
  | .storeB _ => 0x21#8
  | .unassigned22 => 0x22#8
  | .moveAB => 0x23#8
  | .moveAX => 0x24#8
  | .moveBA => 0x25#8
  | .moveBX => 0x26#8
  | .moveXA => 0x27#8
  | .moveXB => 0x28#8
  | .swap => 0x29#8
  | .unassigned2A => 0x2A#8
  | .unassigned2B => 0x2B#8
  | .unassigned2C => 0x2C#8
  | .unassigned2D => 0x2D#8
  | .unassigned2E => 0x2E#8
  | .unassigned2F => 0x2F#8
  | .addB => 0x30#8
  | .addX => 0x31#8
  | .addMemN _ => 0x32#8
  | .addMemB => 0x33#8
  | .addMemX => 0x34#8
  | .unassigned35 => 0x35#8
  | .unassigned36 => 0x36#8
  | .unassigned37 => 0x37#8
  | .unassigned38 => 0x38#8
  | .unassigned39 => 0x39#8
  | .unassigned3A => 0x3A#8
  | .unassigned3B => 0x3B#8
  | .unassigned3C => 0x3C#8
  | .unassigned3D => 0x3D#8
  | .unassigned3E => 0x3E#8
  | .unassigned3F => 0x3F#8
  | .subB => 0x40#8
  | .subX => 0x41#8
  | .subMemN _ => 0x42#8
  | .subMemB => 0x43#8
  | .subMemX => 0x44#8
  | .unassigned45 => 0x45#8
  | .unassigned46 => 0x46#8
  | .unassigned47 => 0x47#8
  | .unassigned48 => 0x48#8
  | .unassigned49 => 0x49#8
  | .unassigned4A => 0x4A#8
  | .unassigned4B => 0x4B#8
  | .unassigned4C => 0x4C#8
  | .unassigned4D => 0x4D#8
  | .unassigned4E => 0x4E#8
  | .unassigned4F => 0x4F#8
  | .orB => 0x50#8
  | .orX => 0x51#8
  | .orMemN _ => 0x52#8
  | .orMemB => 0x53#8
  | .orMemX => 0x54#8
  | .unassigned55 => 0x55#8
  | .unassigned56 => 0x56#8
  | .unassigned57 => 0x57#8
  | .unassigned58 => 0x58#8
  | .unassigned59 => 0x59#8
  | .unassigned5A => 0x5A#8
  | .unassigned5B => 0x5B#8
  | .unassigned5C => 0x5C#8
  | .unassigned5D => 0x5D#8
  | .unassigned5E => 0x5E#8
  | .unassigned5F => 0x5F#8
  | .xorB => 0x60#8
  | .xorX => 0x61#8
  | .xorMemN _ => 0x62#8
  | .xorMemB => 0x63#8
  | .xorMemX => 0x64#8
  | .unassigned65 => 0x65#8
  | .unassigned66 => 0x66#8
  | .unassigned67 => 0x67#8
  | .unassigned68 => 0x68#8
  | .unassigned69 => 0x69#8
  | .unassigned6A => 0x6A#8
  | .unassigned6B => 0x6B#8
  | .unassigned6C => 0x6C#8
  | .unassigned6D => 0x6D#8
  | .unassigned6E => 0x6E#8
  | .unassigned6F => 0x6F#8
  | .andB => 0x70#8
  | .andX => 0x71#8
  | .andMemN _ => 0x72#8
  | .andMemB => 0x73#8
  | .andMemX => 0x74#8
  | .unassigned75 => 0x75#8
  | .unassigned76 => 0x76#8
  | .unassigned77 => 0x77#8
  | .unassigned78 => 0x78#8
  | .unassigned79 => 0x79#8
  | .unassigned7A => 0x7A#8
  | .unassigned7B => 0x7B#8
  | .unassigned7C => 0x7C#8
  | .unassigned7D => 0x7D#8
  | .unassigned7E => 0x7E#8
  | .unassigned7F => 0x7F#8
  | .unassigned80 => 0x80#8
  | .notA => 0x81#8
  | .bitsl => 0x82#8
  | .bitsr => 0x83#8
  | .inc => 0x84#8
  | .dec => 0x85#8
  | .unassigned86 => 0x86#8
  | .unassigned87 => 0x87#8
  | .unassigned88 => 0x88#8
  | .unassigned89 => 0x89#8
  | .unassigned8A => 0x8A#8
  | .unassigned8B => 0x8B#8
  | .unassigned8C => 0x8C#8
  | .unassigned8D => 0x8D#8
  | .unassigned8E => 0x8E#8
  | .unassigned8F => 0x8F#8
  | .outCmd _ => 0x90#8
  | .outAddr _ => 0x91#8
  | .outDat _ => 0x92#8
  | .outDatMem _ => 0x93#8
  | .unassigned94 => 0x94#8
  | .unassigned95 => 0x95#8
  | .unassigned96 => 0x96#8
  | .unassigned97 => 0x97#8
  | .unassigned98 => 0x98#8
  | .unassigned99 => 0x99#8
  | .unassigned9A => 0x9A#8
  | .unassigned9B => 0x9B#8
  | .unassigned9C => 0x9C#8
  | .unassigned9D => 0x9D#8
  | .unassigned9E => 0x9E#8
  | .unassigned9F => 0x9F#8
  | .jmp _ => 0xA0#8
  | .jmpc _ => 0xA1#8
  | .jmpnc _ => 0xA2#8
  | .jmpz _ => 0xA3#8
  | .jmpnz _ => 0xA4#8
  | .jmpp _ => 0xA5#8
  | .jmpnp _ => 0xA6#8
  | .call _ => 0xA7#8
  | .ret => 0xA8#8
  | .unassignedA9 => 0xA9#8
  | .unassignedAA => 0xAA#8
  | .unassignedAB => 0xAB#8
  | .unassignedAC => 0xAC#8
  | .unassignedAD => 0xAD#8
  | .unassignedAE => 0xAE#8
  | .unassignedAF => 0xAF#8
  | .pushA => 0xB0#8
  | .pushB => 0xB1#8
  | .popA => 0xB2#8
  | .popB => 0xB3#8
  | .stkrest => 0xB4#8
  | .unassignedB5 => 0xB5#8
  | .unassignedB6 => 0xB6#8
  | .unassignedB7 => 0xB7#8
  | .unassignedB8 => 0xB8#8
  | .unassignedB9 => 0xB9#8
  | .unassignedBA => 0xBA#8
  | .unassignedBB => 0xBB#8
  | .unassignedBC => 0xBC#8
  | .unassignedBD => 0xBD#8
  | .unassignedBE => 0xBE#8
  | .unassignedBF => 0xBF#8
  | .unassignedC0 => 0xC0#8
  | .unassignedC1 => 0xC1#8
  | .unassignedC2 => 0xC2#8
  | .unassignedC3 => 0xC3#8
  | .unassignedC4 => 0xC4#8
  | .unassignedC5 => 0xC5#8
  | .unassignedC6 => 0xC6#8
  | .unassignedC7 => 0xC7#8
  | .unassignedC8 => 0xC8#8
  | .unassignedC9 => 0xC9#8
  | .unassignedCA => 0xCA#8
  | .unassignedCB => 0xCB#8
  | .unassignedCC => 0xCC#8
  | .unassignedCD => 0xCD#8
  | .unassignedCE => 0xCE#8
  | .unassignedCF => 0xCF#8
  | .unassignedD0 => 0xD0#8
  | .unassignedD1 => 0xD1#8
  | .unassignedD2 => 0xD2#8
  | .unassignedD3 => 0xD3#8
  | .unassignedD4 => 0xD4#8
  | .unassignedD5 => 0xD5#8
  | .unassignedD6 => 0xD6#8
  | .unassignedD7 => 0xD7#8
  | .unassignedD8 => 0xD8#8
  | .unassignedD9 => 0xD9#8
  | .unassignedDA => 0xDA#8
  | .unassignedDB => 0xDB#8
  | .unassignedDC => 0xDC#8
  | .unassignedDD => 0xDD#8
  | .unassignedDE => 0xDE#8
  | .unassignedDF => 0xDF#8
  | .unassignedE0 => 0xE0#8
  | .unassignedE1 => 0xE1#8
  | .unassignedE2 => 0xE2#8
  | .unassignedE3 => 0xE3#8
  | .unassignedE4 => 0xE4#8
  | .unassignedE5 => 0xE5#8
  | .unassignedE6 => 0xE6#8
  | .unassignedE7 => 0xE7#8
  | .unassignedE8 => 0xE8#8
  | .unassignedE9 => 0xE9#8
  | .unassignedEA => 0xEA#8
  | .unassignedEB => 0xEB#8
  | .unassignedEC => 0xEC#8
  | .unassignedED => 0xED#8
  | .unassignedEE => 0xEE#8
  | .unassignedEF => 0xEF#8
  | .unassignedF0 => 0xF0#8
  | .unassignedF1 => 0xF1#8
  | .unassignedF2 => 0xF2#8
  | .unassignedF3 => 0xF3#8
  | .unassignedF4 => 0xF4#8
  | .unassignedF5 => 0xF5#8
  | .unassignedF6 => 0xF6#8
  | .unassignedF7 => 0xF7#8
  | .unassignedF8 => 0xF8#8
  | .unassignedF9 => 0xF9#8
  | .unassignedFA => 0xFA#8
  | .unassignedFB => 0xFB#8
  | .unassignedFC => 0xFC#8
  | .unassignedFD => 0xFD#8
  | .unassignedFE => 0xFE#8
  | .unassignedFF => 0xFF#8

/-- The operand byte an encoder writes (30_encoding R102): `n` where the instruction uses it, else the don't-care 0
(R100; 20_memory R86). -/
def Instr.operand (i : Instr) : Byte :=
  match i with
  | .noop => 0x00#8
  | .halt => 0x00#8
  | .unassigned02 => 0x00#8
  | .unassigned03 => 0x00#8
  | .unassigned04 => 0x00#8
  | .unassigned05 => 0x00#8
  | .unassigned06 => 0x00#8
  | .unassigned07 => 0x00#8
  | .unassigned08 => 0x00#8
  | .unassigned09 => 0x00#8
  | .unassigned0A => 0x00#8
  | .unassigned0B => 0x00#8
  | .unassigned0C => 0x00#8
  | .unassigned0D => 0x00#8
  | .unassigned0E => 0x00#8
  | .unassigned0F => 0x00#8
  | .loadLitA n => n
  | .loadLitB n => n
  | .loadMemA n => n
  | .loadMemB n => n
  | .unassigned14 => 0x00#8
  | .unassigned15 => 0x00#8
  | .unassigned16 => 0x00#8
  | .unassigned17 => 0x00#8
  | .unassigned18 => 0x00#8
  | .unassigned19 => 0x00#8
  | .unassigned1A => 0x00#8
  | .unassigned1B => 0x00#8
  | .unassigned1C => 0x00#8
  | .unassigned1D => 0x00#8
  | .unassigned1E => 0x00#8
  | .unassigned1F => 0x00#8
  | .storeA n => n
  | .storeB n => n
  | .unassigned22 => 0x00#8
  | .moveAB => 0x00#8
  | .moveAX => 0x00#8
  | .moveBA => 0x00#8
  | .moveBX => 0x00#8
  | .moveXA => 0x00#8
  | .moveXB => 0x00#8
  | .swap => 0x00#8
  | .unassigned2A => 0x00#8
  | .unassigned2B => 0x00#8
  | .unassigned2C => 0x00#8
  | .unassigned2D => 0x00#8
  | .unassigned2E => 0x00#8
  | .unassigned2F => 0x00#8
  | .addB => 0x00#8
  | .addX => 0x00#8
  | .addMemN n => n
  | .addMemB => 0x00#8
  | .addMemX => 0x00#8
  | .unassigned35 => 0x00#8
  | .unassigned36 => 0x00#8
  | .unassigned37 => 0x00#8
  | .unassigned38 => 0x00#8
  | .unassigned39 => 0x00#8
  | .unassigned3A => 0x00#8
  | .unassigned3B => 0x00#8
  | .unassigned3C => 0x00#8
  | .unassigned3D => 0x00#8
  | .unassigned3E => 0x00#8
  | .unassigned3F => 0x00#8
  | .subB => 0x00#8
  | .subX => 0x00#8
  | .subMemN n => n
  | .subMemB => 0x00#8
  | .subMemX => 0x00#8
  | .unassigned45 => 0x00#8
  | .unassigned46 => 0x00#8
  | .unassigned47 => 0x00#8
  | .unassigned48 => 0x00#8
  | .unassigned49 => 0x00#8
  | .unassigned4A => 0x00#8
  | .unassigned4B => 0x00#8
  | .unassigned4C => 0x00#8
  | .unassigned4D => 0x00#8
  | .unassigned4E => 0x00#8
  | .unassigned4F => 0x00#8
  | .orB => 0x00#8
  | .orX => 0x00#8
  | .orMemN n => n
  | .orMemB => 0x00#8
  | .orMemX => 0x00#8
  | .unassigned55 => 0x00#8
  | .unassigned56 => 0x00#8
  | .unassigned57 => 0x00#8
  | .unassigned58 => 0x00#8
  | .unassigned59 => 0x00#8
  | .unassigned5A => 0x00#8
  | .unassigned5B => 0x00#8
  | .unassigned5C => 0x00#8
  | .unassigned5D => 0x00#8
  | .unassigned5E => 0x00#8
  | .unassigned5F => 0x00#8
  | .xorB => 0x00#8
  | .xorX => 0x00#8
  | .xorMemN n => n
  | .xorMemB => 0x00#8
  | .xorMemX => 0x00#8
  | .unassigned65 => 0x00#8
  | .unassigned66 => 0x00#8
  | .unassigned67 => 0x00#8
  | .unassigned68 => 0x00#8
  | .unassigned69 => 0x00#8
  | .unassigned6A => 0x00#8
  | .unassigned6B => 0x00#8
  | .unassigned6C => 0x00#8
  | .unassigned6D => 0x00#8
  | .unassigned6E => 0x00#8
  | .unassigned6F => 0x00#8
  | .andB => 0x00#8
  | .andX => 0x00#8
  | .andMemN n => n
  | .andMemB => 0x00#8
  | .andMemX => 0x00#8
  | .unassigned75 => 0x00#8
  | .unassigned76 => 0x00#8
  | .unassigned77 => 0x00#8
  | .unassigned78 => 0x00#8
  | .unassigned79 => 0x00#8
  | .unassigned7A => 0x00#8
  | .unassigned7B => 0x00#8
  | .unassigned7C => 0x00#8
  | .unassigned7D => 0x00#8
  | .unassigned7E => 0x00#8
  | .unassigned7F => 0x00#8
  | .unassigned80 => 0x00#8
  | .notA => 0x00#8
  | .bitsl => 0x00#8
  | .bitsr => 0x00#8
  | .inc => 0x00#8
  | .dec => 0x00#8
  | .unassigned86 => 0x00#8
  | .unassigned87 => 0x00#8
  | .unassigned88 => 0x00#8
  | .unassigned89 => 0x00#8
  | .unassigned8A => 0x00#8
  | .unassigned8B => 0x00#8
  | .unassigned8C => 0x00#8
  | .unassigned8D => 0x00#8
  | .unassigned8E => 0x00#8
  | .unassigned8F => 0x00#8
  | .outCmd n => n
  | .outAddr n => n
  | .outDat n => n
  | .outDatMem n => n
  | .unassigned94 => 0x00#8
  | .unassigned95 => 0x00#8
  | .unassigned96 => 0x00#8
  | .unassigned97 => 0x00#8
  | .unassigned98 => 0x00#8
  | .unassigned99 => 0x00#8
  | .unassigned9A => 0x00#8
  | .unassigned9B => 0x00#8
  | .unassigned9C => 0x00#8
  | .unassigned9D => 0x00#8
  | .unassigned9E => 0x00#8
  | .unassigned9F => 0x00#8
  | .jmp n => n
  | .jmpc n => n
  | .jmpnc n => n
  | .jmpz n => n
  | .jmpnz n => n
  | .jmpp n => n
  | .jmpnp n => n
  | .call n => n
  | .ret => 0x00#8
  | .unassignedA9 => 0x00#8
  | .unassignedAA => 0x00#8
  | .unassignedAB => 0x00#8
  | .unassignedAC => 0x00#8
  | .unassignedAD => 0x00#8
  | .unassignedAE => 0x00#8
  | .unassignedAF => 0x00#8
  | .pushA => 0x00#8
  | .pushB => 0x00#8
  | .popA => 0x00#8
  | .popB => 0x00#8
  | .stkrest => 0x00#8
  | .unassignedB5 => 0x00#8
  | .unassignedB6 => 0x00#8
  | .unassignedB7 => 0x00#8
  | .unassignedB8 => 0x00#8
  | .unassignedB9 => 0x00#8
  | .unassignedBA => 0x00#8
  | .unassignedBB => 0x00#8
  | .unassignedBC => 0x00#8
  | .unassignedBD => 0x00#8
  | .unassignedBE => 0x00#8
  | .unassignedBF => 0x00#8
  | .unassignedC0 => 0x00#8
  | .unassignedC1 => 0x00#8
  | .unassignedC2 => 0x00#8
  | .unassignedC3 => 0x00#8
  | .unassignedC4 => 0x00#8
  | .unassignedC5 => 0x00#8
  | .unassignedC6 => 0x00#8
  | .unassignedC7 => 0x00#8
  | .unassignedC8 => 0x00#8
  | .unassignedC9 => 0x00#8
  | .unassignedCA => 0x00#8
  | .unassignedCB => 0x00#8
  | .unassignedCC => 0x00#8
  | .unassignedCD => 0x00#8
  | .unassignedCE => 0x00#8
  | .unassignedCF => 0x00#8
  | .unassignedD0 => 0x00#8
  | .unassignedD1 => 0x00#8
  | .unassignedD2 => 0x00#8
  | .unassignedD3 => 0x00#8
  | .unassignedD4 => 0x00#8
  | .unassignedD5 => 0x00#8
  | .unassignedD6 => 0x00#8
  | .unassignedD7 => 0x00#8
  | .unassignedD8 => 0x00#8
  | .unassignedD9 => 0x00#8
  | .unassignedDA => 0x00#8
  | .unassignedDB => 0x00#8
  | .unassignedDC => 0x00#8
  | .unassignedDD => 0x00#8
  | .unassignedDE => 0x00#8
  | .unassignedDF => 0x00#8
  | .unassignedE0 => 0x00#8
  | .unassignedE1 => 0x00#8
  | .unassignedE2 => 0x00#8
  | .unassignedE3 => 0x00#8
  | .unassignedE4 => 0x00#8
  | .unassignedE5 => 0x00#8
  | .unassignedE6 => 0x00#8
  | .unassignedE7 => 0x00#8
  | .unassignedE8 => 0x00#8
  | .unassignedE9 => 0x00#8
  | .unassignedEA => 0x00#8
  | .unassignedEB => 0x00#8
  | .unassignedEC => 0x00#8
  | .unassignedED => 0x00#8
  | .unassignedEE => 0x00#8
  | .unassignedEF => 0x00#8
  | .unassignedF0 => 0x00#8
  | .unassignedF1 => 0x00#8
  | .unassignedF2 => 0x00#8
  | .unassignedF3 => 0x00#8
  | .unassignedF4 => 0x00#8
  | .unassignedF5 => 0x00#8
  | .unassignedF6 => 0x00#8
  | .unassignedF7 => 0x00#8
  | .unassignedF8 => 0x00#8
  | .unassignedF9 => 0x00#8
  | .unassignedFA => 0x00#8
  | .unassignedFB => 0x00#8
  | .unassignedFC => 0x00#8
  | .unassignedFD => 0x00#8
  | .unassignedFE => 0x00#8
  | .unassignedFF => 0x00#8

/-- The two bytes of an instruction, in address order (30_encoding R100). -/
def encode (i : Instr) : List Byte := [i.opcode, i.operand]

/-- The bytes of an instruction given as the opcode table numbers its bits: one 16-bit value `(opcode << 8) | operand`,
opcode in bits 15:8, stored opcode first (30_encoding R101; 20_memory R74; log 15). Bits at or above `nbits` count as 0. -/
def tableBytes (nbits w : Nat) : List Byte :=
  let v := w % 2 ^ nbits
  [BitVec.ofNat 8 (v / 256), BitVec.ofNat 8 v]

/-- The instruction the decoder reads from a word numbered as spec/opcode_table.json numbers it (30_encoding R101). -/
def decodeTableWord (nbits w : Nat) : Option Instr :=
  match decode (tableBytes nbits w) with
  | .ok (i, _) => some i
  | .error _ => none

end Sys2Proof
end

