-- ==== Sys2Proof/Config.lean ====
section
/-! DEFINITION. What an implementation fixes and the spec leaves open. The parameters whose value the spec gives
(STACK_TOP, the flag positions and the rest of 00_scope R7) are in Machine/Parameters.lean. -/

namespace Sys2Proof

/-- STACK_SIZE, the "maximum stack size constant" whose value no source gives: an open named parameter that no rule
reads (00_scope R7; 60_exceptions R316; log 9). It has no body, so nothing can be proved of it. -/
opaque Config.stackSize : Nat

end Sys2Proof
end

