-- ==== Sys2Proof/Machine/ControlWord.lean ====
section
/-! DEFINITION. The control word: its 32 lines, the components they mark, and the conditions under which a combination
of lines has a meaning (40_cycle R130, R131, R132). -/

namespace Sys2Proof.Machine

/-- The bit number of a control line (40_cycle R130). -/
def lineBit (l : Line) : Nat :=
  match l with
  | .hlt => 0
  | .rst => 1
  | .mai => 2
  | .mi => 3
  | .mo => 4
  | .ii => 5
  | .oi => 6
  | .oo => 7
  | .pco => 8
  | .pci => 9
  | .pcp => 10
  | .pcm => 11
  | .ai => 12
  | .ao => 13
  | .bi => 14
  | .bo => 15
  | .xi => 16
  | .xo => 17
  | .x1 => 18
  | .spo => 19
  | .spp => 20
  | .spm => 21
  | .spr => 22
  | .alo => 23
  | .sub => 24
  | .or => 25
  | .xor => 26
  | .and => 27
  | .not => 28
  | .shl => 29
  | .shr => 30
  | .out => 31

/-- `L ∈ w`: line `l` is set in the control word `w` (00_scope R11). -/
def has (l : Line) (w : CtrlWord) : Bool := w.getLsbD (lineBit l)

/-- The word with exactly the given lines set: the bitwise OR of the lines (00_scope R11; 40_cycle R130). -/
def word (lines : List Line) : CtrlWord :=
  match lines with
  | [] => 0#32
  | l :: rest => (1#32 <<< lineBit l) ||| word rest

/-- The transmit lines in line order, each with the component it marks (40_cycle R131). -/
def transmitLines : List (Line × Component) :=
  [(.mo, .mem), (.oo, .reg .opd), (.pco, .reg .pc), (.ao, .reg .a), (.bo, .reg .b), (.xo, .reg .x),
    (.spo, .reg .sp), (.alo, .reg .alu)]

/-- The receive lines in line order, each with the component it marks (40_cycle R131). -/
def receiveLines : List (Line × Component) :=
  [(.mai, .reg .mar), (.mi, .mem), (.ii, .reg .ir), (.oi, .reg .opd), (.pci, .reg .pc), (.ai, .reg .a),
    (.bi, .reg .b), (.xi, .reg .x)]

/-- The components of the lines of a table that are set in `w`, in the table's order. -/
def marked (table : List (Line × Component)) (w : CtrlWord) : List Component :=
  (table.filter fun entry => has entry.1 w).map Prod.snd

/-- The components that `w` marks to transmit, in line order (40_cycle R131, R138). -/
def transmitters (w : CtrlWord) : List Component := marked transmitLines w

/-- The components that `w` marks to receive, in line order (40_cycle R131, R138). -/
def receivers (w : CtrlWord) : List Component := marked receiveLines w

/-- The seven ALU-operation lines with their operations; `Add` has no line (40_cycle R130). -/
def operationLines : List (Line × AluOp) :=
  [(.sub, .sub), (.or, .or), (.xor, .xor), (.and, .and), (.not, .not), (.shl, .shiftLeft), (.shr, .shiftRight)]

/-- R132 (a): at most one ALU-operation line. -/
def oneOperation (w : CtrlWord) : Bool :=
  (operationLines.filter fun entry => has entry.1 w).length ≤ 1

/-- R132 (b): no increment with a decrement, no reload of SP with either. -/
def oneStepEach (w : CtrlWord) : Bool :=
  !(has .pcp w && has .pcm w) && !(has .spp w && has .spm w) && !(has .spr w && (has .spp w || has .spm w))

/-- R132 (c): no component is marked both ways. -/
def oneWayEach (w : CtrlWord) : Bool :=
  !(has .ai w && has .ao w) && !(has .bi w && has .bo w) && !(has .xi w && has .xo w)
    && !(has .pci w && has .pco w) && !(has .oi w && has .oo w) && !(has .mi w && has .mo w)

/-- R132 (d): no register is written both by the bus and by an immediate effect. -/
def oneWriterEach (w : CtrlWord) : Bool :=
  !(has .x1 w && has .xi w) && !(has .pci w && (has .pcp w || has .pcm w))

/-- R132 (e): the address register and the cell it addresses are not both receivers. -/
def addressOrCell (w : CtrlWord) : Bool := !(has .mai w && has .mi w)

end Sys2Proof.Machine
end

