-- ==== Sys2Proof/Machine/Parameters.lean ====
section
/-! DEFINITION. The parameters of 00_scope R7 that the spec gives a value. -/

namespace Sys2Proof.Machine

/-- STACK_TOP, the value of SP after reset and after `stkrest` (00_scope R7; 10_state R46; log 9). -/
def stackTop : Byte := 0xFF#8

/-- MEM_SIZE: the number of memory cells (00_scope R7). -/
def memSize : Nat := 256

/-- FETCH_LEN: the number of words of the fetch program (00_scope R7). -/
def fetchLen : Nat := 4

/-- UPROG_MAX: the most words a micro-program has (00_scope R7). -/
def uprogMax : Nat := 4

/-- FLAG_Z_BIT (00_scope R7; 10_state R33; log 10). -/
def flagZBit : Nat := 0

/-- FLAG_C_BIT (00_scope R7; 10_state R33; log 10). -/
def flagCBit : Nat := 1

/-- FLAG_P_BIT (00_scope R7; 10_state R33; log 10). -/
def flagPBit : Nat := 2

end Sys2Proof.Machine
end

