-- ==== Sys2Proof/WellFormed.lean ====
section
/-! DEFINITION. Well-formedness. An instruction has no ill-formed term: every opcode byte is assigned a constructor and
every operand is a byte (30_encoding R112, R113). What can be ill-formed is a control word (40_cycle R132), a
micro-program (40_cycle R154) and a memory image (60_exceptions R315). -/

namespace Sys2Proof

open Machine

/-- A control word has a meaning iff the five conditions (a) to (e) of 40_cycle R132 hold. -/
def WellFormed.controlWord (w : CtrlWord) : Bool :=
  oneOperation w && oneStepEach w && oneWayEach w && oneWriterEach w && addressOrCell w

/-- One word of a micro-program (40_cycle R154; 60_exceptions R320): well-formed, at most one transmit line, and a
transmit line whenever it has a receive line or `OUT`. -/
def WellFormed.romWord (w : CtrlWord) : Bool :=
  WellFormed.controlWord w && (transmitters w).length ≤ 1
    && ((receivers w).isEmpty && !has .out w || !(transmitters w).isEmpty)

/-- What 40_cycle R154 asks of every micro-program of the decode ROM: 1 to UPROG_MAX words, every word fit, and `RST`
on the last word and on no other. -/
def WellFormed.microProgram (p : MicroProgram) : Bool :=
  match p.reverse with
  | [] => false
  | last :: earlier =>
    p.length ≤ uprogMax && p.all WellFormed.romWord && has .rst last && earlier.all fun w => !has .rst w

/-- A memory image the host may load has exactly 256 bytes (60_exceptions R315). -/
def WellFormed.image (bytes : List Byte) : Bool := bytes.length == memSize

end Sys2Proof
end

