-- ==== Sys2Proof/Machine/State.lean ====
section
/-! DEFINITION. The whole state of the machine (10_state R20), why a step can stop, and the state after reset (R46). -/

namespace Sys2Proof.Machine

/-- The marking of a component (10_state R21, R41). -/
inductive PendingAction where
  | none | transmit | receive
  deriving DecidableEq, Repr

/-- `pending[c]` for the eleven bus components (10_state R41). -/
structure Markings where
  a : PendingAction
  b : PendingAction
  x : PendingAction
  pc : PendingAction
  sp : PendingAction
  ir : PendingAction
  opd : PendingAction
  mar : PendingAction
  alu : PendingAction
  flg : PendingAction
  mem : PendingAction
  deriving DecidableEq, Repr

/-- Nothing marked: the markings between cycles (10_state R41). -/
def Markings.clear : Markings :=
  ⟨.none, .none, .none, .none, .none, .none, .none, .none, .none, .none, .none⟩

/-- The memory: the cells that do not read as 0, by strictly rising address below 256 (10_state R36; 20_memory R70). -/
abbrev Memory := List Host.Cell

/-- The errors of the machine (60_exceptions R311). Each is fatal to the run: the answer of a step is the error alone, and
what a host may still read is `executeResidue` of Machine/HostInterface.lean (R318; log 12). The component an error
records is the spec's (R329); the length in E4 is the model's choice (log 28). -/
inductive Fault where
  /-- E1: component `c` transmitted when the bus already had a value (60_exceptions R312). Raised by the execute step.
  Safe: the spec's own error. -/
  | busConflict (c : Component)
  /-- E2: `c` read the bus when nothing had been transmitted in the cycle (60_exceptions R313). Raised by the execute
  step. Safe: the spec's own error. -/
  | busUnwritten (c : BusReader)
  /-- E3: the non-readable register `r` was marked to transmit (60_exceptions R314). Raised by the marking. Safe: the
  spec's own error. -/
  | readForbidden (r : Reg)
  /-- E4: the host loaded an image of `given` bytes, not 256 (60_exceptions R315). Raised by the host's `loadImage`
  only. Safe: the spec's own error. That it records the length is a DESIGN CHOICE: the spec gives a payload to R312 to
  R314 only (R329; log 28). -/
  | sizeMismatch (given : Nat)
  /-- E5: reserved and never raised (60_exceptions R316). No definition of the model answers with it: safe. -/
  | stackOverflow
  deriving DecidableEq, Repr

/-- What the model gives no meaning, by name. -/
inductive Refusal where
  /-- An instruction with no meaning yet: no arm of `exec` answers with it in the finished model. Safe. -/
  | notModelled (mnemonic : String)
  /-- A control word outside 40_cycle R132 (93 U5). Raised by a decode step; no word of the fetch program or of the ROM
  is one. Safe. -/
  | illFormedWord (w : CtrlWord)
  /-- The counter points past the cached micro-program (40_cycle R159; 93 U10). Raised by a decode step in states no run
  reaches. Safe. -/
  | noSuchWord
  /-- A host move out of the decode, execute protocol (40_cycle R160; 93 U8). Raised by the host session only. Safe. -/
  | outOfProtocol
  /-- One component marked both ways by a harness (93 U13). Raised by the host session only. Safe. -/
  | markedBothWays (c : Component)
  /-- An opcode that the chosen admission switch refuses (93 U3, U4). Raised by `stepUnder` only, never by `step`.
  Safe. -/
  | notAdmitted (opcode : Byte)
  deriving DecidableEq, Repr

/-- The state of the machine: every item of 10_state R20, and two fields of the model's own, `out` (45_output R260) and
`idleBusValue` (93 U6). -/
structure State where
  /-- accumulator (R24) -/
  a : Byte
  /-- second general register (R24) -/
  b : Byte
  /-- register X, the second ALU operand (R25) -/
  x : Byte
  /-- program counter (R26) -/
  pc : Byte
  /-- stack pointer (R28) -/
  sp : Byte
  /-- instruction register (R29) -/
  ir : Byte
  /-- operand register (R30) -/
  opd : Byte
  /-- the memory's address-pointer register (R32) -/
  mar : Byte
  /-- the ALU's cached result (R31) -/
  alu : Byte
  /-- flag register (R33) -/
  flg : Byte
  /-- the 256 cells (R36) -/
  mem : Memory
  /-- bus.value (R35) -/
  busValue : Byte
  /-- bus.hasValue (R35) -/
  busHasValue : Bool
  /-- pending[c] (R41) -/
  pending : Markings
  /-- the coordinator's marked transmitters, in the order of marking (R41) -/
  txList : List Component
  /-- the coordinator's marked receivers, in the order of marking (R41) -/
  rxList : List Component
  /-- micro-instruction counter, 0 to 7 (R37) -/
  microCounter : Fin 8
  /-- the halted bit (R38) -/
  halted : Bool
  /-- the control word the last decode step selected (R39) -/
  activeWord : CtrlWord
  /-- the micro-program cached by the last lookup (R40) -/
  microProgram : MicroProgram
  /-- the selected ALU operation (R31, R43) -/
  aluOp : AluOp
  /-- the flags of the last ALU computation (R43) -/
  aluFlags : BitVec 3
  /-- whether the decode step's word carried `ALO` (R43) -/
  flagLatch : Bool
  /-- diagnostic copy of the bus (R42) -/
  lastBusValue : Byte
  /-- the model's own: the output events so far, oldest first (45_output R260; log 6) -/
  out : List (Fin 4 × Byte)
  /-- the model's own free value: what `lastBusValue` takes in a cycle with no transmitter (R42; 93 U6; log 5). No step
  writes it. -/
  idleBusValue : Byte
  deriving DecidableEq, Repr

/-- The answer of a step, or of a part of one. -/
abbrev Result := Host.Outcome State Fault Refusal

/-- The state after reset, which is also the power-on state (10_state R46; 70_reset R340). -/
def State.reset : State where
  a := 0#8
  b := 0#8
  x := 0#8
  pc := 0#8
  sp := stackTop
  ir := 0#8
  opd := 0#8
  mar := 0#8
  alu := 0#8
  flg := 0#8
  mem := []
  busValue := 0#8
  busHasValue := false
  pending := Markings.clear
  txList := []
  rxList := []
  microCounter := 0
  halted := false
  activeWord := 0#32
  microProgram := []
  aluOp := .add
  aluFlags := 0#3
  flagLatch := false
  lastBusValue := 0#8
  out := []
  idleBusValue := 0#8

end Sys2Proof.Machine
end

