-- ==== Sys2Proof/Machine/Flags.lean ====
section
/-! DEFINITION. The ALU: its eight result functions and the flag computation (43_alu_binary R210), and the reading of
the flag byte (10_state R33). -/

namespace Sys2Proof.Machine

/-- The result byte of the ALU (43_alu_binary R210); the one-operand operations ignore `x`. -/
def aluResult (op : AluOp) (a x : Byte) : Byte :=
  match op with
  | .add => a + x
  | .sub => a - x
  | .or => a ||| x
  | .xor => a ^^^ x
  | .and => a &&& x
  | .not => ~~~a
  | .shiftLeft => a <<< 1
  | .shiftRight => a >>> 1

/-- The carry: set only by an addition whose unsigned sum passes 0xFF (43_alu_binary R210, R237; log 10). -/
def aluCarry (op : AluOp) (a x : Byte) : Bool :=
  match op with
  | .add => a.toNat + x.toNat > 255
  | .sub => false
  | .or => false
  | .xor => false
  | .and => false
  | .not => false
  | .shiftLeft => false
  | .shiftRight => false

/-- One flag at its position in the flag byte. -/
def flagAt (bit : Nat) (v : Bool) : BitVec 3 := if v then 1#3 <<< bit else 0#3

/-- The flag result of the ALU: zero, carry, and the low bit of the result (43_alu_binary R210; 10_state R33, R43). -/
def aluFlagResult (op : AluOp) (a x : Byte) : BitVec 3 :=
  flagAt flagZBit (aluResult op a x == 0#8) ||| flagAt flagCBit (aluCarry op a x)
    ||| flagAt flagPBit ((aluResult op a x).getLsbD 0)

/-- The byte the flag register latches: the three flags, bits 7:3 zero (10_state R33, R34). -/
def flagByte (f : BitVec 3) : Byte := f.setWidth 8

/-- `Z` of a flag byte (10_state R33). -/
def zeroFlag (flg : Byte) : Bool := flg.getLsbD flagZBit

/-- `C` of a flag byte (10_state R33). -/
def carryFlag (flg : Byte) : Bool := flg.getLsbD flagCBit

/-- `P` of a flag byte: the low bit of the latched result, not a true parity (10_state R33). -/
def parityFlag (flg : Byte) : Bool := flg.getLsbD flagPBit

end Sys2Proof.Machine
end

