-- ==== Sys2Proof/Machine/Ops.lean ====
section
/-! DEFINITION. The named operations over memory, registers, the bus and the markings (20_memory R72; 40_cycle R150 to
R152). The machine has no trap entry and no return from one (60_exceptions R310, R322): an error is the `fault` of the
outcome, and this file holds no operation for taking an exception. -/

namespace Sys2Proof.Machine

/-- Sequencing: go on only from a next state. -/
def andThen (r : Result) (f : State → Result) : Result :=
  match r with
  | .next s => f s
  | .fault e => .fault e
  | .refused e => .refused e

/-! ### Memory -/

/-- What an unlisted address reads as: the reset contents (10_state R36, R46). -/
def unlistedByte : Byte := 0#8

/-- The byte listed at an address. -/
def readCell (m : Memory) (addr : Nat) : Byte :=
  match m with
  | [] => unlistedByte
  | (k, v) :: rest => if k = addr then v else readCell rest addr

/-- Writing keeps the addresses rising and lists no byte that an unlisted address reads as. -/
def writeCell (m : Memory) (addr : Nat) (v : Byte) : Memory :=
  match m with
  | [] => if v = unlistedByte then [] else [(addr, v)]
  | (k, u) :: rest =>
    if addr < k then (if v = unlistedByte then (k, u) :: rest else (addr, v) :: (k, u) :: rest)
    else if addr = k then (if v = unlistedByte then rest else (addr, v) :: rest)
    else (k, u) :: writeCell rest addr v

/-- `MemRead(a, 1)`, pure (20_memory R72, R78). -/
def memRead (m : Memory) (addr : Byte) : Byte := readCell m addr.toNat

/-- `MemWrite(a, 1, v)` (20_memory R72). -/
def memWrite (m : Memory) (addr v : Byte) : Memory := writeCell m addr.toNat v

/-- The canonical form from address `low` on: rising addresses below 256, no byte that need not be listed. -/
def canonicalFrom (low : Nat) (m : Memory) : Bool :=
  match m with
  | [] => true
  | (k, v) :: rest => decide (low ≤ k) && decide (k < memSize) && decide (v ≠ unlistedByte) && canonicalFrom (k + 1) rest

/-- The memory is in its canonical form, in which equal memories are equal lists. -/
def Memory.wf (m : Memory) : Bool := canonicalFrom 0 m

/-- The byte of a state's memory at an address: `mem[a]` (00_scope R12). -/
def State.read (s : State) (addr : Byte) : Byte := memRead s.mem addr

/-- `mem[a] <- v`. -/
def State.write (s : State) (addr v : Byte) : State := { s with mem := memWrite s.mem addr v }

/-- The memory that holds the given bytes from address `low` on. -/
def imageFrom (low : Nat) (bytes : List Byte) : Memory :=
  match bytes with
  | [] => []
  | v :: rest => if v = unlistedByte then imageFrom (low + 1) rest else (low, v) :: imageFrom (low + 1) rest

/-- The 256 bytes of a memory in address order (20_memory R85). -/
def imageOf (m : Memory) : List Byte := (List.range memSize).map (readCell m)

/-- The instruction bytes at `addr`: the opcode, and the operand at the next address mod 256 (30_encoding R100). -/
def instrBytesAt (s : State) (addr : Byte) : List Byte := [s.read addr, s.read (addr + 1#8)]

/-- Lays the bytes of an instruction out from `addr` on, the first at the lowest address (20_memory R74). -/
def storeBytes (s : State) (addr : Byte) (bytes : List Byte) : State :=
  match bytes with
  | [] => s
  | v :: rest => storeBytes (s.write addr v) (addr + 1#8) rest

/-! ### Registers -/

/-- `x[r]` (00_scope R12). -/
def getReg (s : State) (r : Reg) : Byte :=
  match r with
  | .a => s.a
  | .b => s.b
  | .x => s.x
  | .pc => s.pc
  | .sp => s.sp
  | .ir => s.ir
  | .opd => s.opd
  | .mar => s.mar
  | .alu => s.alu
  | .flg => s.flg

/-- `x[r] <- v` (00_scope R12). -/
def setReg (s : State) (r : Reg) (v : Byte) : State :=
  match r with
  | .a => { s with a := v }
  | .b => { s with b := v }
  | .x => { s with x := v }
  | .pc => { s with pc := v }
  | .sp => { s with sp := v }
  | .ir => { s with ir := v }
  | .opd => { s with opd := v }
  | .mar => { s with mar := v }
  | .alu => { s with alu := v }
  | .flg => { s with flg := v }

/-- The fixed `readable` attribute: IR, MAR and FLG are not readable onto the bus (10_state R21, R22). -/
def readable (r : Reg) : Bool :=
  match r with
  | .a => true
  | .b => true
  | .x => true
  | .pc => true
  | .sp => true
  | .ir => false
  | .opd => true
  | .mar => false
  | .alu => true
  | .flg => false

/-- The byte a component puts on the bus: a register's value, or the cell at MAR as it is now (40_cycle R151, R152). -/
def componentValue (s : State) (c : Component) : Byte :=
  match c with
  | .reg r => getReg s r
  | .mem => s.read s.mar

/-- What a component does with a byte it receives (40_cycle R151, R152). -/
def componentTake (s : State) (c : Component) (v : Byte) : State :=
  match c with
  | .reg r => setReg s r v
  | .mem => s.write s.mar v

/-! ### The bus (40_cycle R150) -/

/-- `bus.transmit(v)` by component `c`. -/
def busTransmit (c : Component) (v : Byte) (s : State) : Result :=
  if s.busHasValue then .fault (.busConflict c) else .next { s with busValue := v, busHasValue := true }

/-- `bus.receive()` by `who`: on success the value is the state's `busValue`, which stays on the bus. -/
def busReceive (who : BusReader) (s : State) : Result :=
  if s.busHasValue then .next s else .fault (.busUnwritten who)

/-- `bus.clockReset()`. -/
def busClockReset (s : State) : State := { s with busHasValue := false, busValue := 0#8 }

/-! ### Markings (40_cycle R151, R152) -/

/-- `pending[c]`. -/
def pendingOf (m : Markings) (c : Component) : PendingAction :=
  match c with
  | .reg .a => m.a
  | .reg .b => m.b
  | .reg .x => m.x
  | .reg .pc => m.pc
  | .reg .sp => m.sp
  | .reg .ir => m.ir
  | .reg .opd => m.opd
  | .reg .mar => m.mar
  | .reg .alu => m.alu
  | .reg .flg => m.flg
  | .mem => m.mem

/-- `pending[c] <- p`. -/
def setPending (m : Markings) (c : Component) (p : PendingAction) : Markings :=
  match c with
  | .reg .a => { m with a := p }
  | .reg .b => { m with b := p }
  | .reg .x => { m with x := p }
  | .reg .pc => { m with pc := p }
  | .reg .sp => { m with sp := p }
  | .reg .ir => { m with ir := p }
  | .reg .opd => { m with opd := p }
  | .reg .mar => { m with mar := p }
  | .reg .alu => { m with alu := p }
  | .reg .flg => { m with flg := p }
  | .mem => { m with mem := p }

/-- `markTransmit(c)`: a register that is not readable fails at the marking, in the decode step (40_cycle R151;
60_exceptions R314; 90 C5). The memory's marking always succeeds (R152). -/
def markTransmit (c : Component) (s : State) : Result :=
  match c with
  | .reg r =>
    if readable r then .next { s with pending := setPending s.pending c .transmit, txList := s.txList ++ [c] }
    else .fault (.readForbidden r)
  | .mem => .next { s with pending := setPending s.pending c .transmit, txList := s.txList ++ [c] }

/-- `markReceive(c)`: always succeeds (40_cycle R151). -/
def markReceive (c : Component) (s : State) : State :=
  { s with pending := setPending s.pending c .receive, rxList := s.rxList ++ [c] }

/-- Marks components to transmit, in order. -/
def markTransmitters (cs : List Component) (s : State) : Result :=
  match cs with
  | [] => .next s
  | c :: rest => andThen (markTransmit c s) (markTransmitters rest)

/-- Marks components to receive, in order. -/
def markReceivers (cs : List Component) (s : State) : State :=
  match cs with
  | [] => s
  | c :: rest => markReceivers rest (markReceive c s)

/-- Clears the marking of one component. -/
def unmark (c : Component) (s : State) : State := { s with pending := setPending s.pending c .none }

/-- `resolveCycle(c)`: a component marked to transmit puts its value on the bus, one marked to receive takes the bus
value, and the marking is cleared (40_cycle R151, R152). -/
def resolve (c : Component) (s : State) : Result :=
  match pendingOf s.pending c with
  | .none => .next s
  | .transmit => andThen (busTransmit c (componentValue s c) s) fun t => .next (unmark c t)
  | .receive => andThen (busReceive (.component c) s) fun t => .next (unmark c (componentTake t c t.busValue))

/-- Resolves components in list order; the first error ends it (40_cycle R141, R142). -/
def resolveAll (cs : List Component) (s : State) : Result :=
  match cs with
  | [] => .next s
  | c :: rest => andThen (resolve c s) (resolveAll rest)

end Sys2Proof.Machine
end

