-- ==== Sys2Proof/Machine/Operands.lean ====
section
/-! DEFINITION. The operand forms, as words of a micro-program: how the second ALU operand gets into X (43_alu_binary
R239), how an address gets into MAR (20_memory R73), how the stack slot is addressed (47_stack R295). -/

namespace Sys2Proof.Machine

/-- `OO|MAI`: the operand byte is the address (30_encoding R102). -/
def addressFromOperand : CtrlWord := word [.oo, .mai]

/-- `SPO|MAI`: the stack slot a push writes, at SP before it is decremented (47_stack R295). -/
def addressOfPush : CtrlWord := word [.spo, .mai]

/-- `SPP|SPO|MAI`: the stack slot a pop reads, at SP after it is incremented (47_stack R295; 40_cycle R139). -/
def addressOfPop : CtrlWord := word [.spp, .spo, .mai]

/-- `MO|XI`: the addressed cell becomes the second ALU operand (43_alu_binary R239). -/
def cellToX : CtrlWord := word [.mo, .xi]

/-- The prefix words that bring the second operand into X, by source (43_alu_binary R239). -/
def sourcePrefix (src : AluSource) : MicroProgram :=
  match src with
  | .regB => [word [.bo, .xi]]
  | .regX => []
  | .memN => [addressFromOperand, cellToX]
  | .memB => [word [.bo, .mai], cellToX]
  | .memX => [word [.xo, .mai], cellToX]

/-- The line of an ALU operation; `Add` has none (40_cycle R130). -/
def operationLine (op : AluOp) : List Line :=
  match op with
  | .add => []
  | .sub => [.sub]
  | .or => [.or]
  | .xor => [.xor]
  | .and => [.and]
  | .not => [.not]
  | .shiftLeft => [.shl]
  | .shiftRight => [.shr]

/-- The last word of every ALU instruction: the operation line with `ALO|AI|RST` (43_alu_binary R211, R239). -/
def aluLastWord (op : AluOp) : CtrlWord := word (operationLine op ++ [.alo, .ai, .rst])

/-- The operand source of a low nibble of the binary ALU family (43_alu_binary R239). -/
def sourceOfNibble (lo : Nat) : Option AluSource :=
  match lo with
  | 0x0 => some .regB
  | 0x1 => some .regX
  | 0x2 => some .memN
  | 0x3 => some .memB
  | 0x4 => some .memX
  | _ => none

end Sys2Proof.Machine
end

