-- ==== Sys2Proof/Machine/Rom.lean ====
section
/-! DEFINITION. The fetch program (40_cycle R136) and the decode ROM (40_cycle R154). The ROM is written from the
spec's family rules (30_encoding R104 to R112, 43_alu_binary R239, 44_alu_unary R255), by nibbles; the meanings in the
family files are written from the instructions' own rules, word by word. That the two agree is stated, not assumed. -/

namespace Sys2Proof.Machine

/-- The four words of the fetch program (40_cycle R136). -/
def fetchProgram : MicroProgram :=
  [word [.pco, .mai], word [.mo, .ii, .pcp], word [.pco, .mai], word [.mo, .oi, .pcp]]

/-- The micro-program that transfers nothing: the reset line alone (40_cycle R154; 90 C7). -/
def emptyProgram : MicroProgram := [word [.rst]]

/-- High nibble 0 (48_misc R300, R301). -/
def romMisc (lo : Nat) : MicroProgram :=
  match lo with
  | 0x1 => [word [.hlt, .rst]]
  | _ => emptyProgram

/-- Loads: bit 0 of the opcode selects the destination, bit 1 the source (30_encoding R104; 41_load R184). -/
def romLoad (lo : Nat) : MicroProgram :=
  let dest := if lo % 2 = 0 then Line.ai else Line.bi
  if lo < 2 then [word [.oo, dest, .rst]]
  else if lo < 4 then [addressFromOperand, word [.mo, dest, .rst]]
  else emptyProgram

/-- Stores, moves and swap (30_encoding R105; 42_store_move R190 to R200). -/
def romStoreMove (lo : Nat) : MicroProgram :=
  match lo with
  | 0x0 => [addressFromOperand, word [.ao, .mi, .rst]]
  | 0x1 => [addressFromOperand, word [.bo, .mi, .rst]]
  | 0x3 => [word [.ao, .bi, .rst]]
  | 0x4 => [word [.ao, .xi, .rst]]
  | 0x5 => [word [.bo, .ai, .rst]]
  | 0x6 => [word [.bo, .xi, .rst]]
  | 0x7 => [word [.xo, .ai, .rst]]
  | 0x8 => [word [.xo, .bi, .rst]]
  | 0x9 => [word [.ao, .xi], word [.bo, .ai], word [.xo, .bi, .rst]]
  | _ => emptyProgram

/-- Binary ALU: the source's prefix, then the operation's last word (43_alu_binary R239). -/
def romBinary (op : AluOp) (lo : Nat) : MicroProgram :=
  match sourceOfNibble lo with
  | some src => sourcePrefix src ++ [aluLastWord op]
  | none => emptyProgram

/-- Unary ALU: `inc` and `dec` add the line `X1` (44_alu_unary R255). -/
def romUnary (lo : Nat) : MicroProgram :=
  match lo with
  | 0x1 => [aluLastWord .not]
  | 0x2 => [aluLastWord .shiftLeft]
  | 0x3 => [aluLastWord .shiftRight]
  | 0x4 => [word [.x1] ||| aluLastWord .add]
  | 0x5 => [word [.x1] ||| aluLastWord .sub]
  | _ => emptyProgram

/-- Output: three literal forms and one memory form (30_encoding R108; 45_output R265). -/
def romOutput (lo : Nat) : MicroProgram :=
  if lo < 3 then [word [.oo, .out, .rst]]
  else if lo = 3 then [addressFromOperand, word [.mo, .out, .rst]]
  else emptyProgram

/-- The word of a taken jump (46_jump R271). -/
def jumpWord : CtrlWord := word [.oo, .pci, .rst]

/-- A jump whose condition is `taken`: the ROM tests it, no control word does (46_jump R271; 90 C7). -/
def jumpProgram (taken : Bool) : MicroProgram := if taken then [jumpWord] else emptyProgram

/-- Jumps, call and return (30_encoding R109; 46_jump R270 to R280). -/
def romJump (lo : Nat) (flg : Byte) : MicroProgram :=
  match lo with
  | 0x0 => jumpProgram true
  | 0x1 => jumpProgram (carryFlag flg)
  | 0x2 => jumpProgram (!carryFlag flg)
  | 0x3 => jumpProgram (zeroFlag flg)
  | 0x4 => jumpProgram (!zeroFlag flg)
  | 0x5 => jumpProgram (parityFlag flg)
  | 0x6 => jumpProgram (!parityFlag flg)
  | 0x7 => [addressOfPush, word [.pco, .mi, .spm], jumpWord]
  | 0x8 => [addressOfPop, word [.mo, .pci, .rst]]
  | _ => emptyProgram

/-- Stack: bit 0 selects A or B, bit 1 selects pop (30_encoding R110; 47_stack R297). -/
def romStack (lo : Nat) : MicroProgram :=
  if lo < 2 then [addressOfPush, word [if lo = 0 then .ao else .bo, .mi, .spm, .rst]]
  else if lo < 4 then [addressOfPop, word [.mo, if lo = 2 then .ai else .bi, .rst]]
  else if lo = 4 then [word [.spr, .rst]]
  else emptyProgram

/-- `ROM(ir, flg)`, total; the flag byte matters only for 0xA1 to 0xA6 (40_cycle R154; 30_encoding R113). -/
def rom (ir flg : Byte) : MicroProgram :=
  let lo := ir.toNat % 16
  match ir.toNat / 16 with
  | 0x0 => romMisc lo
  | 0x1 => romLoad lo
  | 0x2 => romStoreMove lo
  | 0x3 => romBinary .add lo
  | 0x4 => romBinary .sub lo
  | 0x5 => romBinary .or lo
  | 0x6 => romBinary .xor lo
  | 0x7 => romBinary .and lo
  | 0x8 => romUnary lo
  | 0x9 => romOutput lo
  | 0xA => romJump lo flg
  | 0xB => romStack lo
  | _ => emptyProgram

end Sys2Proof.Machine
end

