-- ==== Sys2Proof/Machine/Cycle.lean ====
section
/-! DEFINITION. One cycle: the decode step and the execute step (40_cycle R133 to R149), for any control word, and the
fetch program (R136). -/

namespace Sys2Proof.Machine

/-! ### The decode step -/

/-- Immediate effects on PC, SP and X (40_cycle R139). -/
def immediateRegs (w : CtrlWord) (s : State) : State :=
  let s := if has .pcp w then { s with pc := s.pc + 1#8 } else s
  let s := if has .pcm w then { s with pc := s.pc - 1#8 } else s
  let s := if has .spp w then { s with sp := s.sp + 1#8 } else s
  let s := if has .spm w then { s with sp := s.sp - 1#8 } else s
  let s := if has .spr w then { s with sp := stackTop } else s
  if has .x1 w then { s with x := 1#8 } else s

/-- The ALU operation a word selects, `old` if it carries no operation line (40_cycle R139). -/
def selectedOp (w : CtrlWord) (old : AluOp) : AluOp :=
  match operationLines.find? fun entry => has entry.1 w with
  | some entry => entry.2
  | none => old

/-- Immediate effects, the ALU operation selection among them (40_cycle R139). -/
def immediateEffects (w : CtrlWord) (s : State) : State :=
  let s := immediateRegs w s
  { s with aluOp := selectedOp w s.aluOp }

/-- The ALU computation of a decode step, from A and X as they are now (40_cycle R140; 10_state R31). -/
def computeAlu (w : CtrlWord) (s : State) : State :=
  { s with alu := aluResult s.aluOp s.a s.x, aluFlags := aluFlagResult s.aluOp s.a s.x, flagLatch := has .alo w }

/-- A decode step that is not halted, with its word chosen: the word becomes active; the halt line stops it there;
else marking, immediate effects and the ALU (40_cycle R135, R137 to R140). A word outside R132 is refused (93 U5). -/
def decodeWord (w : CtrlWord) (s : State) : Result :=
  if WellFormed.controlWord w then
    let s := { s with activeWord := w }
    if has .hlt w then .next { s with halted := true }
    else
      andThen (markTransmitters (transmitters w) s) fun t =>
        .next (computeAlu w (immediateEffects w (markReceivers (receivers w) t)))
  else .refused (.illFormedWord w)

/-- The word a decode step makes active, and the micro-program cached after the choice (40_cycle R135; 90 C9). `none`:
the counter points past the cached micro-program (R159). -/
def chooseWord (s : State) : Option (CtrlWord × MicroProgram) :=
  if s.microCounter.val < fetchLen then
    (fetchProgram[s.microCounter.val]?).map fun w => (w, s.microProgram)
  else
    let p := if s.microCounter.val = fetchLen then rom s.ir s.flg else s.microProgram
    (p[s.microCounter.val - fetchLen]?).map fun w => (w, p)

/-- The decode step (40_cycle R134, R135): nothing at all when halted. -/
def decodeStep (s : State) : Result :=
  if s.halted then .next s
  else
    match chooseWord s with
    | none => .refused .noSuchWord
    | some (w, p) => decodeWord w { s with microProgram := p }

/-! ### The execute step -/

/-- The bus transfer: transmitters, then receivers, then the lists are emptied (40_cycle R141 to R143). -/
def transfer (s : State) : Result :=
  andThen (resolveAll s.txList s) fun t =>
    andThen (resolveAll t.rxList t) fun u => .next { u with txList := [], rxList := [] }

/-- The diagnostic copy of the bus (40_cycle R144); with no transmitter it is the free value (93 U6; log 5). -/
def cacheBus (s : State) : State :=
  { s with lastBusValue := if s.busHasValue then s.busValue else s.idleBusValue }

/-- The two low bits of the instruction register, which select the kind of an output (45_output R260; log 6). -/
def outputSelector (ir : Byte) : Fin 4 := (ir.extractLsb' 0 2).toFin

/-- `Output(sel, bus.value)` if the active word carries `OUT`, which reads the bus like a receiver (40_cycle R145;
45_output R260; 60_exceptions R313). -/
def output (s : State) : Result :=
  if has .out s.activeWord then
    andThen (busReceive .outLine s) fun t => .next { t with out := t.out ++ [(outputSelector t.ir, t.busValue)] }
  else .next s

/-- The clocking: the flags are latched if the decode step asked for it, and the ALU goes back to Add (40_cycle R146;
90 C3, C4). -/
def clockLatches (s : State) : State :=
  { s with flg := if s.flagLatch then flagByte s.aluFlags else s.flg, flagLatch := false, aluOp := .add }

/-- The micro-counter: 0 if the active word carries `RST`, else one more mod 8 (40_cycle R148). -/
def advanceCounter (s : State) : State :=
  { s with microCounter := if has .rst s.activeWord then 0 else s.microCounter + 1 }

/-- The execute step (40_cycle R141 to R149), which does not look at `halted`. -/
def executeStep (s : State) : Result :=
  andThen (transfer s) fun t =>
    andThen (output (cacheBus t)) fun u => .next (advanceCounter (busClockReset (clockLatches u)))

/-! ### Cycles -/

/-- One cycle of the machine (40_cycle R133). -/
def cycle (s : State) : Result := andThen (decodeStep s) executeStep

/-- `n` cycles. -/
def cycles (n : Nat) (s : State) : Result :=
  match n with
  | 0 => .next s
  | n + 1 => andThen (cycle s) (cycles n)

/-- One cycle of a machine that is not halted, driven by the control word `w`. -/
def wordCycle (w : CtrlWord) (s : State) : Result := andThen (decodeWord w s) executeStep

/-- Cycles driven by the words of a list, in order. -/
def runWords (ws : List CtrlWord) (s : State) : Result :=
  match ws with
  | [] => .next s
  | w :: rest => andThen (wordCycle w s) (runWords rest)

/-- Cycles until the micro-counter is back at 0, at most `fuel` of them. -/
def finishInstruction (fuel : Nat) (s : State) : Result :=
  match fuel with
  | 0 => .next s
  | fuel + 1 => andThen (cycle s) fun t => if t.microCounter = 0 then .next t else finishInstruction fuel t

/-- The fetch cycles still to run: all four at the start of an instruction (40_cycle R136). -/
def fetch (s : State) : Result := runWords (fetchProgram.drop s.microCounter.val) s

/-- The instruction in IR and OPD, once the fetch has put it there (40_cycle R136; 10_state R29, R30). -/
def fetchedInstr (s : State) : Instr := decodePair s.ir s.opd

/-- The instruction at the program counter (10_state R26). -/
def instrAtPc (s : State) : Except DecodeError (Instr × List Byte) := decode (instrBytesAt s s.pc)

/-! ### Instructions -/

/-- An instruction whose operand byte is ignored: from the state the fetch leaves, with the opcode in IR and the counter
at 4, its micro-program is cached and its words are run (40_cycle R135, R156). -/
def runProgram (op : Byte) (p : MicroProgram) (s : State) : Result :=
  runWords p { s with ir := op, microCounter := 4, microProgram := p }

/-- The same for an instruction that uses its operand byte, which is in OPD. -/
def runProgramWith (op n : Byte) (p : MicroProgram) (s : State) : Result :=
  runProgram op p { s with opd := n }

/-- An unassigned opcode: the one-word program `[RST]` (48_misc R303). -/
def runUnassigned (op : Byte) (s : State) : Result := runProgram op [word [.rst]] s

end Sys2Proof.Machine
end

