-- ==== Sys2Proof/Machine/AluBinary.lean ====
section
/-! DEFINITION. The meanings of the two-operand ALU instructions (43_alu_binary R212 to R239): each runs the micro-program of its rule by the cycle
rules, from the state the fetch leaves. -/

namespace Sys2Proof.Machine

/-- 0x30 `add B` (R212). `X <- B; A <- A + X`, flags. -/
def execAddB (s : State) : Result :=
  runProgram 0x30#8 [word [.bo, .xi], word [.rst, .ai, .alo]] s

/-- 0x31 `add X` (R213). `A <- A + X`, flags. -/
def execAddX (s : State) : Result :=
  runProgram 0x31#8 [word [.rst, .ai, .alo]] s

/-- 0x32 `add $N` (R214). `MAR <- n; X <- mem[n]; A <- A + X`, flags. -/
def execAddMemN (n : Byte) (s : State) : Result :=
  runProgramWith 0x32#8 n [word [.mai, .oo], word [.mo, .xi], word [.rst, .ai, .alo]] s

/-- 0x33 `add $B` (R215). `MAR <- B; X <- mem[B]; A <- A + X`, flags. -/
def execAddMemB (s : State) : Result :=
  runProgram 0x33#8 [word [.mai, .bo], word [.mo, .xi], word [.rst, .ai, .alo]] s

/-- 0x34 `add $X` (R216). `MAR <- X; X <- mem[X]; A <- A + X`, flags. -/
def execAddMemX (s : State) : Result :=
  runProgram 0x34#8 [word [.mai, .xo], word [.mo, .xi], word [.rst, .ai, .alo]] s

/-- 0x40 `sub B` (R217). `X <- B; A <- A - X`, flags. -/
def execSubB (s : State) : Result :=
  runProgram 0x40#8 [word [.bo, .xi], word [.rst, .ai, .alo, .sub]] s

/-- 0x41 `sub X` (R218). `A <- A - X`, flags. -/
def execSubX (s : State) : Result :=
  runProgram 0x41#8 [word [.rst, .ai, .alo, .sub]] s

/-- 0x42 `sub $N` (R219). `MAR <- n; X <- mem[n]; A <- A - X`, flags. -/
def execSubMemN (n : Byte) (s : State) : Result :=
  runProgramWith 0x42#8 n [word [.mai, .oo], word [.mo, .xi], word [.rst, .ai, .alo, .sub]] s

/-- 0x43 `sub $B` (R220). `MAR <- B; X <- mem[B]; A <- A - X`, flags. -/
def execSubMemB (s : State) : Result :=
  runProgram 0x43#8 [word [.mai, .bo], word [.mo, .xi], word [.rst, .ai, .alo, .sub]] s

/-- 0x44 `sub $X` (R221). `MAR <- X; X <- mem[X]; A <- A - X`, flags. -/
def execSubMemX (s : State) : Result :=
  runProgram 0x44#8 [word [.mai, .xo], word [.mo, .xi], word [.rst, .ai, .alo, .sub]] s

/-- 0x50 `or B` (R222). `X <- B; A <- A or X`, flags. -/
def execOrB (s : State) : Result :=
  runProgram 0x50#8 [word [.bo, .xi], word [.rst, .ai, .alo, .or]] s

/-- 0x51 `or X` (R223). `A <- A or X`, flags. -/
def execOrX (s : State) : Result :=
  runProgram 0x51#8 [word [.rst, .ai, .alo, .or]] s

/-- 0x52 `or $N` (R224). `MAR <- n; X <- mem[n]; A <- A or X`, flags. -/
def execOrMemN (n : Byte) (s : State) : Result :=
  runProgramWith 0x52#8 n [word [.mai, .oo], word [.mo, .xi], word [.rst, .ai, .alo, .or]] s

/-- 0x53 `or $B` (R225). `MAR <- B; X <- mem[B]; A <- A or X`, flags. -/
def execOrMemB (s : State) : Result :=
  runProgram 0x53#8 [word [.mai, .bo], word [.mo, .xi], word [.rst, .ai, .alo, .or]] s

/-- 0x54 `or $X` (R226). `MAR <- X; X <- mem[X]; A <- A or X`, flags. -/
def execOrMemX (s : State) : Result :=
  runProgram 0x54#8 [word [.mai, .xo], word [.mo, .xi], word [.rst, .ai, .alo, .or]] s

/-- 0x60 `xor B` (R227). `X <- B; A <- A xor X`, flags. -/
def execXorB (s : State) : Result :=
  runProgram 0x60#8 [word [.bo, .xi], word [.rst, .ai, .alo, .xor]] s

/-- 0x61 `xor X` (R228). `A <- A xor X`, flags. -/
def execXorX (s : State) : Result :=
  runProgram 0x61#8 [word [.rst, .ai, .alo, .xor]] s

/-- 0x62 `xor $N` (R229). `MAR <- n; X <- mem[n]; A <- A xor X`, flags. -/
def execXorMemN (n : Byte) (s : State) : Result :=
  runProgramWith 0x62#8 n [word [.mai, .oo], word [.mo, .xi], word [.rst, .ai, .alo, .xor]] s

/-- 0x63 `xor $B` (R230). `MAR <- B; X <- mem[B]; A <- A xor X`, flags. -/
def execXorMemB (s : State) : Result :=
  runProgram 0x63#8 [word [.mai, .bo], word [.mo, .xi], word [.rst, .ai, .alo, .xor]] s

/-- 0x64 `xor $X` (R231). `MAR <- X; X <- mem[X]; A <- A xor X`, flags. -/
def execXorMemX (s : State) : Result :=
  runProgram 0x64#8 [word [.mai, .xo], word [.mo, .xi], word [.rst, .ai, .alo, .xor]] s

/-- 0x70 `and B` (R232). `X <- B; A <- A and X`, flags. -/
def execAndB (s : State) : Result :=
  runProgram 0x70#8 [word [.bo, .xi], word [.rst, .ai, .alo, .and]] s

/-- 0x71 `and X` (R233). `A <- A and X`, flags. -/
def execAndX (s : State) : Result :=
  runProgram 0x71#8 [word [.rst, .ai, .alo, .and]] s

/-- 0x72 `and $N` (R234). `MAR <- n; X <- mem[n]; A <- A and X`, flags. -/
def execAndMemN (n : Byte) (s : State) : Result :=
  runProgramWith 0x72#8 n [word [.mai, .oo], word [.mo, .xi], word [.rst, .ai, .alo, .and]] s

/-- 0x73 `and $B` (R235). `MAR <- B; X <- mem[B]; A <- A and X`, flags. -/
def execAndMemB (s : State) : Result :=
  runProgram 0x73#8 [word [.mai, .bo], word [.mo, .xi], word [.rst, .ai, .alo, .and]] s

/-- 0x74 `and $X` (R236). `MAR <- X; X <- mem[X]; A <- A and X`, flags. -/
def execAndMemX (s : State) : Result :=
  runProgram 0x74#8 [word [.mai, .xo], word [.mo, .xi], word [.rst, .ai, .alo, .and]] s

end Sys2Proof.Machine
end

