-- ==== Sys2Proof/Machine/AluUnary.lean ====
section
/-! DEFINITION. The meanings of the one-operand ALU instructions (44_alu_unary R250 to R255): each runs the micro-program of its rule by the cycle
rules, from the state the fetch leaves. -/

namespace Sys2Proof.Machine

/-- 0x81 `not` (R250). `A <- ~A`, flags; X kept. -/
def execNotA (s : State) : Result :=
  runProgram 0x81#8 [word [.rst, .ai, .alo, .not]] s

/-- 0x82 `bitsl` (R251). `A <- A << 1`, flags; X kept. -/
def execBitsl (s : State) : Result :=
  runProgram 0x82#8 [word [.rst, .ai, .alo, .shl]] s

/-- 0x83 `bitsr` (R252). `A <- A >> 1`, flags; X kept. -/
def execBitsr (s : State) : Result :=
  runProgram 0x83#8 [word [.rst, .ai, .alo, .shr]] s

/-- 0x84 `inc` (R253). `X <- 1; A <- A + X`, flags. -/
def execInc (s : State) : Result :=
  runProgram 0x84#8 [word [.rst, .ai, .x1, .alo]] s

/-- 0x85 `dec` (R254). `X <- 1; A <- A - X`, flags. -/
def execDec (s : State) : Result :=
  runProgram 0x85#8 [word [.rst, .ai, .x1, .alo, .sub]] s

end Sys2Proof.Machine
end

