-- ==== Sys2Proof/Machine/Jump.lean ====
section
/-! DEFINITION. The meanings of the jumps, call and return (46_jump_call_return R270 to R281): each runs the micro-program of its rule by the cycle
rules, from the state the fetch leaves. -/

namespace Sys2Proof.Machine

/-- 0xA0 `jmp N` (R272). `PC <- n`. -/
def execJmp (n : Byte) (s : State) : Result :=
  runProgramWith 0xA0#8 n [word [.rst, .oo, .pci]] s

/-- 0xA1 `jmpc N` (R273). If C = 1, `PC <- n`; the ROM tests the flag, once (R271). -/
def execJmpc (n : Byte) (s : State) : Result :=
  runProgramWith 0xA1#8 n (if carryFlag s.flg then [word [.rst, .oo, .pci]] else [word [.rst]]) s

/-- 0xA2 `jmpnc N` (R274). If C = 0, `PC <- n`; the ROM tests the flag, once (R271). -/
def execJmpnc (n : Byte) (s : State) : Result :=
  runProgramWith 0xA2#8 n (if !carryFlag s.flg then [word [.rst, .oo, .pci]] else [word [.rst]]) s

/-- 0xA3 `jmpz N` (R275). If Z = 1, `PC <- n`; the ROM tests the flag, once (R271). -/
def execJmpz (n : Byte) (s : State) : Result :=
  runProgramWith 0xA3#8 n (if zeroFlag s.flg then [word [.rst, .oo, .pci]] else [word [.rst]]) s

/-- 0xA4 `jmpnz N` (R276). If Z = 0, `PC <- n`; the ROM tests the flag, once (R271). -/
def execJmpnz (n : Byte) (s : State) : Result :=
  runProgramWith 0xA4#8 n (if !zeroFlag s.flg then [word [.rst, .oo, .pci]] else [word [.rst]]) s

/-- 0xA5 `jmpp N` (R277). If P = 1, `PC <- n`; the ROM tests the flag, once (R271). -/
def execJmpp (n : Byte) (s : State) : Result :=
  runProgramWith 0xA5#8 n (if parityFlag s.flg then [word [.rst, .oo, .pci]] else [word [.rst]]) s

/-- 0xA6 `jmpnp N` (R278). If P = 0, `PC <- n`; the ROM tests the flag, once (R271). -/
def execJmpnp (n : Byte) (s : State) : Result :=
  runProgramWith 0xA6#8 n (if !parityFlag s.flg then [word [.rst, .oo, .pci]] else [word [.rst]]) s

/-- 0xA7 `call N` (R279). `MAR <- SP; SP <- SP - 1; mem[MAR] <- PC; PC <- n`; PC is past the call here. -/
def execCall (n : Byte) (s : State) : Result :=
  runProgramWith 0xA7#8 n [word [.mai, .spo], word [.mi, .pco, .spm], word [.rst, .oo, .pci]] s

/-- 0xA8 `return` (R280). `SP <- SP + 1; MAR <- SP; PC <- mem[MAR]`. -/
def execRet (s : State) : Result :=
  runProgram 0xA8#8 [word [.mai, .spo, .spp], word [.rst, .mo, .pci]] s

end Sys2Proof.Machine
end

