-- ==== Sys2Proof/Machine/Load.lean ====
section
/-! DEFINITION. The meanings of the loads (41_load R180 to R184): each runs the micro-program of its rule by the cycle
rules, from the state the fetch leaves. -/

namespace Sys2Proof.Machine

/-- 0x10 `load N -> a` (R180). `A <- n`. -/
def execLoadLitA (n : Byte) (s : State) : Result :=
  runProgramWith 0x10#8 n [word [.rst, .oo, .ai]] s

/-- 0x11 `load N -> b` (R181). `B <- n`. -/
def execLoadLitB (n : Byte) (s : State) : Result :=
  runProgramWith 0x11#8 n [word [.rst, .oo, .bi]] s

/-- 0x12 `load $N -> a` (R182). `MAR <- n; A <- mem[n]`. -/
def execLoadMemA (n : Byte) (s : State) : Result :=
  runProgramWith 0x12#8 n [word [.mai, .oo], word [.rst, .mo, .ai]] s

/-- 0x13 `load $N -> b` (R183). `MAR <- n; B <- mem[n]`. -/
def execLoadMemB (n : Byte) (s : State) : Result :=
  runProgramWith 0x13#8 n [word [.mai, .oo], word [.rst, .mo, .bi]] s

end Sys2Proof.Machine
end

