-- ==== Sys2Proof/Machine/Misc.lean ====
section
/-! DEFINITION. The meanings of the no-op and halt instructions (48_misc R300, R301): each runs the micro-program of its rule by the cycle
rules, from the state the fetch leaves. -/

namespace Sys2Proof.Machine

/-- 0x00 `noop` (R300). Nothing but what the fetch did. -/
def execNoop (s : State) : Result :=
  runProgram 0x00#8 [word [.rst]] s

/-- 0x01 `halt` (R301). `halted <- true`; the counter goes back to 0. -/
def execHalt (s : State) : Result :=
  runProgram 0x01#8 [word [.hlt, .rst]] s

end Sys2Proof.Machine
end

