-- ==== Sys2Proof/Machine/Output.lean ====
section
/-! DEFINITION. The meanings of the output instructions (45_output R260 to R265): each runs the micro-program of its rule by the cycle
rules, from the state the fetch leaves. -/

namespace Sys2Proof.Machine

/-- 0x90 `out cmd N` (R261). `Output(0, n)`. -/
def execOutCmd (n : Byte) (s : State) : Result :=
  runProgramWith 0x90#8 n [word [.rst, .oo, .out]] s

/-- 0x91 `out addr N` (R262). `Output(1, n)`. -/
def execOutAddr (n : Byte) (s : State) : Result :=
  runProgramWith 0x91#8 n [word [.rst, .oo, .out]] s

/-- 0x92 `out dat N` (R263). `Output(2, n)`. -/
def execOutDat (n : Byte) (s : State) : Result :=
  runProgramWith 0x92#8 n [word [.rst, .oo, .out]] s

/-- 0x93 `out dat $N` (R264). `MAR <- n; Output(3, mem[n])`. -/
def execOutDatMem (n : Byte) (s : State) : Result :=
  runProgramWith 0x93#8 n [word [.mai, .oo], word [.rst, .mo, .out]] s

end Sys2Proof.Machine
end

