-- ==== Sys2Proof/Machine/Stack.lean ====
section
/-! DEFINITION. The meanings of the stack instructions (47_stack R290 to R297): each runs the micro-program of its rule by the cycle
rules, from the state the fetch leaves. -/

namespace Sys2Proof.Machine

/-- 0xB0 `push a` (R290). `MAR <- SP; SP <- SP - 1; mem[MAR] <- A`. -/
def execPushA (s : State) : Result :=
  runProgram 0xB0#8 [word [.mai, .spo], word [.rst, .mi, .ao, .spm]] s

/-- 0xB1 `push b` (R291). `MAR <- SP; SP <- SP - 1; mem[MAR] <- B`. -/
def execPushB (s : State) : Result :=
  runProgram 0xB1#8 [word [.mai, .spo], word [.rst, .mi, .bo, .spm]] s

/-- 0xB2 `pop a` (R292). `SP <- SP + 1; MAR <- SP; A <- mem[MAR]`. -/
def execPopA (s : State) : Result :=
  runProgram 0xB2#8 [word [.mai, .spo, .spp], word [.rst, .mo, .ai]] s

/-- 0xB3 `pop b` (R293). `SP <- SP + 1; MAR <- SP; B <- mem[MAR]`. -/
def execPopB (s : State) : Result :=
  runProgram 0xB3#8 [word [.mai, .spo, .spp], word [.rst, .mo, .bi]] s

/-- 0xB4 `stkrest` (R294). `SP <- STACK_TOP`. -/
def execStkrest (s : State) : Result :=
  runProgram 0xB4#8 [word [.rst, .spr]] s

end Sys2Proof.Machine
end

