-- ==== Sys2Proof/Machine/StoreMove.lean ====
section
/-! DEFINITION. The meanings of the stores, register moves and swap (42_store_move R190 to R199): each runs the micro-program of its rule by the cycle
rules, from the state the fetch leaves. -/

namespace Sys2Proof.Machine

/-- 0x20 `store a -> $N` (R190). `MAR <- n; mem[n] <- A`. -/
def execStoreA (n : Byte) (s : State) : Result :=
  runProgramWith 0x20#8 n [word [.mai, .oo], word [.rst, .mi, .ao]] s

/-- 0x21 `store b -> $N` (R191). `MAR <- n; mem[n] <- B`. -/
def execStoreB (n : Byte) (s : State) : Result :=
  runProgramWith 0x21#8 n [word [.mai, .oo], word [.rst, .mi, .bo]] s

/-- 0x23 `move a,b` (R192). `B <- A`. -/
def execMoveAB (s : State) : Result :=
  runProgram 0x23#8 [word [.rst, .ao, .bi]] s

/-- 0x24 `move a,x` (R193). `X <- A`. -/
def execMoveAX (s : State) : Result :=
  runProgram 0x24#8 [word [.rst, .ao, .xi]] s

/-- 0x25 `move b,a` (R194). `A <- B`. -/
def execMoveBA (s : State) : Result :=
  runProgram 0x25#8 [word [.rst, .ai, .bo]] s

/-- 0x26 `move b,x` (R195). `X <- B`. -/
def execMoveBX (s : State) : Result :=
  runProgram 0x26#8 [word [.rst, .bo, .xi]] s

/-- 0x27 `move x,a` (R196). `A <- X`. -/
def execMoveXA (s : State) : Result :=
  runProgram 0x27#8 [word [.rst, .ai, .xo]] s

/-- 0x28 `move x,b` (R197). `B <- X`. -/
def execMoveXB (s : State) : Result :=
  runProgram 0x28#8 [word [.rst, .bi, .xo]] s

/-- 0x29 `swap` (R198). `X <- A; A <- B; B <- X`: A and B exchanged, X the old A. -/
def execSwap (s : State) : Result :=
  runProgram 0x29#8 [word [.ao, .xi], word [.ai, .bo], word [.rst, .bi, .xo]] s

end Sys2Proof.Machine
end

