-- ==== Sys2Proof/Machine/Unassigned.lean ====
section
/-! DEFINITION. The meanings of the 193 unassigned opcodes: each is the no-op of 48_misc R303, "not an error". 0x22, 0x2A
and 0x2B lie in a range the source calls populated (42_store_move R200; log 7). -/

namespace Sys2Proof.Machine

/-- 0x02, unassigned (R303). -/
def execUnassigned02 (s : State) : Result := runUnassigned 0x02#8 s

/-- 0x03, unassigned (R303). -/
def execUnassigned03 (s : State) : Result := runUnassigned 0x03#8 s

/-- 0x04, unassigned (R303). -/
def execUnassigned04 (s : State) : Result := runUnassigned 0x04#8 s

/-- 0x05, unassigned (R303). -/
def execUnassigned05 (s : State) : Result := runUnassigned 0x05#8 s

/-- 0x06, unassigned (R303). -/
def execUnassigned06 (s : State) : Result := runUnassigned 0x06#8 s

/-- 0x07, unassigned (R303). -/
def execUnassigned07 (s : State) : Result := runUnassigned 0x07#8 s

/-- 0x08, unassigned (R303). -/
def execUnassigned08 (s : State) : Result := runUnassigned 0x08#8 s

/-- 0x09, unassigned (R303). -/
def execUnassigned09 (s : State) : Result := runUnassigned 0x09#8 s

/-- 0x0A, unassigned (R303). -/
def execUnassigned0A (s : State) : Result := runUnassigned 0x0A#8 s

/-- 0x0B, unassigned (R303). -/
def execUnassigned0B (s : State) : Result := runUnassigned 0x0B#8 s

/-- 0x0C, unassigned (R303). -/
def execUnassigned0C (s : State) : Result := runUnassigned 0x0C#8 s

/-- 0x0D, unassigned (R303). -/
def execUnassigned0D (s : State) : Result := runUnassigned 0x0D#8 s

/-- 0x0E, unassigned (R303). -/
def execUnassigned0E (s : State) : Result := runUnassigned 0x0E#8 s

/-- 0x0F, unassigned (R303). -/
def execUnassigned0F (s : State) : Result := runUnassigned 0x0F#8 s

/-- 0x14, unassigned (R303). -/
def execUnassigned14 (s : State) : Result := runUnassigned 0x14#8 s

/-- 0x15, unassigned (R303). -/
def execUnassigned15 (s : State) : Result := runUnassigned 0x15#8 s

/-- 0x16, unassigned (R303). -/
def execUnassigned16 (s : State) : Result := runUnassigned 0x16#8 s

/-- 0x17, unassigned (R303). -/
def execUnassigned17 (s : State) : Result := runUnassigned 0x17#8 s

/-- 0x18, unassigned (R303). -/
def execUnassigned18 (s : State) : Result := runUnassigned 0x18#8 s

/-- 0x19, unassigned (R303). -/
def execUnassigned19 (s : State) : Result := runUnassigned 0x19#8 s

/-- 0x1A, unassigned (R303). -/
def execUnassigned1A (s : State) : Result := runUnassigned 0x1A#8 s

/-- 0x1B, unassigned (R303). -/
def execUnassigned1B (s : State) : Result := runUnassigned 0x1B#8 s

/-- 0x1C, unassigned (R303). -/
def execUnassigned1C (s : State) : Result := runUnassigned 0x1C#8 s

/-- 0x1D, unassigned (R303). -/
def execUnassigned1D (s : State) : Result := runUnassigned 0x1D#8 s

/-- 0x1E, unassigned (R303). -/
def execUnassigned1E (s : State) : Result := runUnassigned 0x1E#8 s

/-- 0x1F, unassigned (R303). -/
def execUnassigned1F (s : State) : Result := runUnassigned 0x1F#8 s

/-- 0x22, unassigned (R303, R200). -/
def execUnassigned22 (s : State) : Result := runUnassigned 0x22#8 s

/-- 0x2A, unassigned (R303, R200). -/
def execUnassigned2A (s : State) : Result := runUnassigned 0x2A#8 s

/-- 0x2B, unassigned (R303, R200). -/
def execUnassigned2B (s : State) : Result := runUnassigned 0x2B#8 s

/-- 0x2C, unassigned (R303). -/
def execUnassigned2C (s : State) : Result := runUnassigned 0x2C#8 s

/-- 0x2D, unassigned (R303). -/
def execUnassigned2D (s : State) : Result := runUnassigned 0x2D#8 s

/-- 0x2E, unassigned (R303). -/
def execUnassigned2E (s : State) : Result := runUnassigned 0x2E#8 s

/-- 0x2F, unassigned (R303). -/
def execUnassigned2F (s : State) : Result := runUnassigned 0x2F#8 s

/-- 0x35, unassigned (R303). -/
def execUnassigned35 (s : State) : Result := runUnassigned 0x35#8 s

/-- 0x36, unassigned (R303). -/
def execUnassigned36 (s : State) : Result := runUnassigned 0x36#8 s

/-- 0x37, unassigned (R303). -/
def execUnassigned37 (s : State) : Result := runUnassigned 0x37#8 s

/-- 0x38, unassigned (R303). -/
def execUnassigned38 (s : State) : Result := runUnassigned 0x38#8 s

/-- 0x39, unassigned (R303). -/
def execUnassigned39 (s : State) : Result := runUnassigned 0x39#8 s

/-- 0x3A, unassigned (R303). -/
def execUnassigned3A (s : State) : Result := runUnassigned 0x3A#8 s

/-- 0x3B, unassigned (R303). -/
def execUnassigned3B (s : State) : Result := runUnassigned 0x3B#8 s

/-- 0x3C, unassigned (R303). -/
def execUnassigned3C (s : State) : Result := runUnassigned 0x3C#8 s

/-- 0x3D, unassigned (R303). -/
def execUnassigned3D (s : State) : Result := runUnassigned 0x3D#8 s

/-- 0x3E, unassigned (R303). -/
def execUnassigned3E (s : State) : Result := runUnassigned 0x3E#8 s

/-- 0x3F, unassigned (R303). -/
def execUnassigned3F (s : State) : Result := runUnassigned 0x3F#8 s

/-- 0x45, unassigned (R303). -/
def execUnassigned45 (s : State) : Result := runUnassigned 0x45#8 s

/-- 0x46, unassigned (R303). -/
def execUnassigned46 (s : State) : Result := runUnassigned 0x46#8 s

/-- 0x47, unassigned (R303). -/
def execUnassigned47 (s : State) : Result := runUnassigned 0x47#8 s

/-- 0x48, unassigned (R303). -/
def execUnassigned48 (s : State) : Result := runUnassigned 0x48#8 s

/-- 0x49, unassigned (R303). -/
def execUnassigned49 (s : State) : Result := runUnassigned 0x49#8 s

/-- 0x4A, unassigned (R303). -/
def execUnassigned4A (s : State) : Result := runUnassigned 0x4A#8 s

/-- 0x4B, unassigned (R303). -/
def execUnassigned4B (s : State) : Result := runUnassigned 0x4B#8 s

/-- 0x4C, unassigned (R303). -/
def execUnassigned4C (s : State) : Result := runUnassigned 0x4C#8 s

/-- 0x4D, unassigned (R303). -/
def execUnassigned4D (s : State) : Result := runUnassigned 0x4D#8 s

/-- 0x4E, unassigned (R303). -/
def execUnassigned4E (s : State) : Result := runUnassigned 0x4E#8 s

/-- 0x4F, unassigned (R303). -/
def execUnassigned4F (s : State) : Result := runUnassigned 0x4F#8 s

/-- 0x55, unassigned (R303). -/
def execUnassigned55 (s : State) : Result := runUnassigned 0x55#8 s

/-- 0x56, unassigned (R303). -/
def execUnassigned56 (s : State) : Result := runUnassigned 0x56#8 s

/-- 0x57, unassigned (R303). -/
def execUnassigned57 (s : State) : Result := runUnassigned 0x57#8 s

/-- 0x58, unassigned (R303). -/
def execUnassigned58 (s : State) : Result := runUnassigned 0x58#8 s

/-- 0x59, unassigned (R303). -/
def execUnassigned59 (s : State) : Result := runUnassigned 0x59#8 s

/-- 0x5A, unassigned (R303). -/
def execUnassigned5A (s : State) : Result := runUnassigned 0x5A#8 s

/-- 0x5B, unassigned (R303). -/
def execUnassigned5B (s : State) : Result := runUnassigned 0x5B#8 s

/-- 0x5C, unassigned (R303). -/
def execUnassigned5C (s : State) : Result := runUnassigned 0x5C#8 s

/-- 0x5D, unassigned (R303). -/
def execUnassigned5D (s : State) : Result := runUnassigned 0x5D#8 s

/-- 0x5E, unassigned (R303). -/
def execUnassigned5E (s : State) : Result := runUnassigned 0x5E#8 s

/-- 0x5F, unassigned (R303). -/
def execUnassigned5F (s : State) : Result := runUnassigned 0x5F#8 s

/-- 0x65, unassigned (R303). -/
def execUnassigned65 (s : State) : Result := runUnassigned 0x65#8 s

/-- 0x66, unassigned (R303). -/
def execUnassigned66 (s : State) : Result := runUnassigned 0x66#8 s

/-- 0x67, unassigned (R303). -/
def execUnassigned67 (s : State) : Result := runUnassigned 0x67#8 s

/-- 0x68, unassigned (R303). -/
def execUnassigned68 (s : State) : Result := runUnassigned 0x68#8 s

/-- 0x69, unassigned (R303). -/
def execUnassigned69 (s : State) : Result := runUnassigned 0x69#8 s

/-- 0x6A, unassigned (R303). -/
def execUnassigned6A (s : State) : Result := runUnassigned 0x6A#8 s

/-- 0x6B, unassigned (R303). -/
def execUnassigned6B (s : State) : Result := runUnassigned 0x6B#8 s

/-- 0x6C, unassigned (R303). -/
def execUnassigned6C (s : State) : Result := runUnassigned 0x6C#8 s

/-- 0x6D, unassigned (R303). -/
def execUnassigned6D (s : State) : Result := runUnassigned 0x6D#8 s

/-- 0x6E, unassigned (R303). -/
def execUnassigned6E (s : State) : Result := runUnassigned 0x6E#8 s

/-- 0x6F, unassigned (R303). -/
def execUnassigned6F (s : State) : Result := runUnassigned 0x6F#8 s

/-- 0x75, unassigned (R303). -/
def execUnassigned75 (s : State) : Result := runUnassigned 0x75#8 s

/-- 0x76, unassigned (R303). -/
def execUnassigned76 (s : State) : Result := runUnassigned 0x76#8 s

/-- 0x77, unassigned (R303). -/
def execUnassigned77 (s : State) : Result := runUnassigned 0x77#8 s

/-- 0x78, unassigned (R303). -/
def execUnassigned78 (s : State) : Result := runUnassigned 0x78#8 s

/-- 0x79, unassigned (R303). -/
def execUnassigned79 (s : State) : Result := runUnassigned 0x79#8 s

/-- 0x7A, unassigned (R303). -/
def execUnassigned7A (s : State) : Result := runUnassigned 0x7A#8 s

/-- 0x7B, unassigned (R303). -/
def execUnassigned7B (s : State) : Result := runUnassigned 0x7B#8 s

/-- 0x7C, unassigned (R303). -/
def execUnassigned7C (s : State) : Result := runUnassigned 0x7C#8 s

/-- 0x7D, unassigned (R303). -/
def execUnassigned7D (s : State) : Result := runUnassigned 0x7D#8 s

/-- 0x7E, unassigned (R303). -/
def execUnassigned7E (s : State) : Result := runUnassigned 0x7E#8 s

/-- 0x7F, unassigned (R303). -/
def execUnassigned7F (s : State) : Result := runUnassigned 0x7F#8 s

/-- 0x80, unassigned (R303). -/
def execUnassigned80 (s : State) : Result := runUnassigned 0x80#8 s

/-- 0x86, unassigned (R303). -/
def execUnassigned86 (s : State) : Result := runUnassigned 0x86#8 s

/-- 0x87, unassigned (R303). -/
def execUnassigned87 (s : State) : Result := runUnassigned 0x87#8 s

/-- 0x88, unassigned (R303). -/
def execUnassigned88 (s : State) : Result := runUnassigned 0x88#8 s

/-- 0x89, unassigned (R303). -/
def execUnassigned89 (s : State) : Result := runUnassigned 0x89#8 s

/-- 0x8A, unassigned (R303). -/
def execUnassigned8A (s : State) : Result := runUnassigned 0x8A#8 s

/-- 0x8B, unassigned (R303). -/
def execUnassigned8B (s : State) : Result := runUnassigned 0x8B#8 s

/-- 0x8C, unassigned (R303). -/
def execUnassigned8C (s : State) : Result := runUnassigned 0x8C#8 s

/-- 0x8D, unassigned (R303). -/
def execUnassigned8D (s : State) : Result := runUnassigned 0x8D#8 s

/-- 0x8E, unassigned (R303). -/
def execUnassigned8E (s : State) : Result := runUnassigned 0x8E#8 s

/-- 0x8F, unassigned (R303). -/
def execUnassigned8F (s : State) : Result := runUnassigned 0x8F#8 s

/-- 0x94, unassigned (R303). -/
def execUnassigned94 (s : State) : Result := runUnassigned 0x94#8 s

/-- 0x95, unassigned (R303). -/
def execUnassigned95 (s : State) : Result := runUnassigned 0x95#8 s

/-- 0x96, unassigned (R303). -/
def execUnassigned96 (s : State) : Result := runUnassigned 0x96#8 s

/-- 0x97, unassigned (R303). -/
def execUnassigned97 (s : State) : Result := runUnassigned 0x97#8 s

/-- 0x98, unassigned (R303). -/
def execUnassigned98 (s : State) : Result := runUnassigned 0x98#8 s

/-- 0x99, unassigned (R303). -/
def execUnassigned99 (s : State) : Result := runUnassigned 0x99#8 s

/-- 0x9A, unassigned (R303). -/
def execUnassigned9A (s : State) : Result := runUnassigned 0x9A#8 s

/-- 0x9B, unassigned (R303). -/
def execUnassigned9B (s : State) : Result := runUnassigned 0x9B#8 s

/-- 0x9C, unassigned (R303). -/
def execUnassigned9C (s : State) : Result := runUnassigned 0x9C#8 s

/-- 0x9D, unassigned (R303). -/
def execUnassigned9D (s : State) : Result := runUnassigned 0x9D#8 s

/-- 0x9E, unassigned (R303). -/
def execUnassigned9E (s : State) : Result := runUnassigned 0x9E#8 s

/-- 0x9F, unassigned (R303). -/
def execUnassigned9F (s : State) : Result := runUnassigned 0x9F#8 s

/-- 0xA9, unassigned (R303). -/
def execUnassignedA9 (s : State) : Result := runUnassigned 0xA9#8 s

/-- 0xAA, unassigned (R303). -/
def execUnassignedAA (s : State) : Result := runUnassigned 0xAA#8 s

/-- 0xAB, unassigned (R303). -/
def execUnassignedAB (s : State) : Result := runUnassigned 0xAB#8 s

/-- 0xAC, unassigned (R303). -/
def execUnassignedAC (s : State) : Result := runUnassigned 0xAC#8 s

/-- 0xAD, unassigned (R303). -/
def execUnassignedAD (s : State) : Result := runUnassigned 0xAD#8 s

/-- 0xAE, unassigned (R303). -/
def execUnassignedAE (s : State) : Result := runUnassigned 0xAE#8 s

/-- 0xAF, unassigned (R303). -/
def execUnassignedAF (s : State) : Result := runUnassigned 0xAF#8 s

/-- 0xB5, unassigned (R303). -/
def execUnassignedB5 (s : State) : Result := runUnassigned 0xB5#8 s

/-- 0xB6, unassigned (R303). -/
def execUnassignedB6 (s : State) : Result := runUnassigned 0xB6#8 s

/-- 0xB7, unassigned (R303). -/
def execUnassignedB7 (s : State) : Result := runUnassigned 0xB7#8 s

/-- 0xB8, unassigned (R303). -/
def execUnassignedB8 (s : State) : Result := runUnassigned 0xB8#8 s

/-- 0xB9, unassigned (R303). -/
def execUnassignedB9 (s : State) : Result := runUnassigned 0xB9#8 s

/-- 0xBA, unassigned (R303). -/
def execUnassignedBA (s : State) : Result := runUnassigned 0xBA#8 s

/-- 0xBB, unassigned (R303). -/
def execUnassignedBB (s : State) : Result := runUnassigned 0xBB#8 s

/-- 0xBC, unassigned (R303). -/
def execUnassignedBC (s : State) : Result := runUnassigned 0xBC#8 s

/-- 0xBD, unassigned (R303). -/
def execUnassignedBD (s : State) : Result := runUnassigned 0xBD#8 s

/-- 0xBE, unassigned (R303). -/
def execUnassignedBE (s : State) : Result := runUnassigned 0xBE#8 s

/-- 0xBF, unassigned (R303). -/
def execUnassignedBF (s : State) : Result := runUnassigned 0xBF#8 s

/-- 0xC0, unassigned (R303). -/
def execUnassignedC0 (s : State) : Result := runUnassigned 0xC0#8 s

/-- 0xC1, unassigned (R303). -/
def execUnassignedC1 (s : State) : Result := runUnassigned 0xC1#8 s

/-- 0xC2, unassigned (R303). -/
def execUnassignedC2 (s : State) : Result := runUnassigned 0xC2#8 s

/-- 0xC3, unassigned (R303). -/
def execUnassignedC3 (s : State) : Result := runUnassigned 0xC3#8 s

/-- 0xC4, unassigned (R303). -/
def execUnassignedC4 (s : State) : Result := runUnassigned 0xC4#8 s

/-- 0xC5, unassigned (R303). -/
def execUnassignedC5 (s : State) : Result := runUnassigned 0xC5#8 s

/-- 0xC6, unassigned (R303). -/
def execUnassignedC6 (s : State) : Result := runUnassigned 0xC6#8 s

/-- 0xC7, unassigned (R303). -/
def execUnassignedC7 (s : State) : Result := runUnassigned 0xC7#8 s

/-- 0xC8, unassigned (R303). -/
def execUnassignedC8 (s : State) : Result := runUnassigned 0xC8#8 s

/-- 0xC9, unassigned (R303). -/
def execUnassignedC9 (s : State) : Result := runUnassigned 0xC9#8 s

/-- 0xCA, unassigned (R303). -/
def execUnassignedCA (s : State) : Result := runUnassigned 0xCA#8 s

/-- 0xCB, unassigned (R303). -/
def execUnassignedCB (s : State) : Result := runUnassigned 0xCB#8 s

/-- 0xCC, unassigned (R303). -/
def execUnassignedCC (s : State) : Result := runUnassigned 0xCC#8 s

/-- 0xCD, unassigned (R303). -/
def execUnassignedCD (s : State) : Result := runUnassigned 0xCD#8 s

/-- 0xCE, unassigned (R303). -/
def execUnassignedCE (s : State) : Result := runUnassigned 0xCE#8 s

/-- 0xCF, unassigned (R303). -/
def execUnassignedCF (s : State) : Result := runUnassigned 0xCF#8 s

/-- 0xD0, unassigned (R303). -/
def execUnassignedD0 (s : State) : Result := runUnassigned 0xD0#8 s

/-- 0xD1, unassigned (R303). -/
def execUnassignedD1 (s : State) : Result := runUnassigned 0xD1#8 s

/-- 0xD2, unassigned (R303). -/
def execUnassignedD2 (s : State) : Result := runUnassigned 0xD2#8 s

/-- 0xD3, unassigned (R303). -/
def execUnassignedD3 (s : State) : Result := runUnassigned 0xD3#8 s

/-- 0xD4, unassigned (R303). -/
def execUnassignedD4 (s : State) : Result := runUnassigned 0xD4#8 s

/-- 0xD5, unassigned (R303). -/
def execUnassignedD5 (s : State) : Result := runUnassigned 0xD5#8 s

/-- 0xD6, unassigned (R303). -/
def execUnassignedD6 (s : State) : Result := runUnassigned 0xD6#8 s

/-- 0xD7, unassigned (R303). -/
def execUnassignedD7 (s : State) : Result := runUnassigned 0xD7#8 s

/-- 0xD8, unassigned (R303). -/
def execUnassignedD8 (s : State) : Result := runUnassigned 0xD8#8 s

/-- 0xD9, unassigned (R303). -/
def execUnassignedD9 (s : State) : Result := runUnassigned 0xD9#8 s

/-- 0xDA, unassigned (R303). -/
def execUnassignedDA (s : State) : Result := runUnassigned 0xDA#8 s

/-- 0xDB, unassigned (R303). -/
def execUnassignedDB (s : State) : Result := runUnassigned 0xDB#8 s

/-- 0xDC, unassigned (R303). -/
def execUnassignedDC (s : State) : Result := runUnassigned 0xDC#8 s

/-- 0xDD, unassigned (R303). -/
def execUnassignedDD (s : State) : Result := runUnassigned 0xDD#8 s

/-- 0xDE, unassigned (R303). -/
def execUnassignedDE (s : State) : Result := runUnassigned 0xDE#8 s

/-- 0xDF, unassigned (R303). -/
def execUnassignedDF (s : State) : Result := runUnassigned 0xDF#8 s

/-- 0xE0, unassigned (R303). -/
def execUnassignedE0 (s : State) : Result := runUnassigned 0xE0#8 s

/-- 0xE1, unassigned (R303). -/
def execUnassignedE1 (s : State) : Result := runUnassigned 0xE1#8 s

/-- 0xE2, unassigned (R303). -/
def execUnassignedE2 (s : State) : Result := runUnassigned 0xE2#8 s

/-- 0xE3, unassigned (R303). -/
def execUnassignedE3 (s : State) : Result := runUnassigned 0xE3#8 s

/-- 0xE4, unassigned (R303). -/
def execUnassignedE4 (s : State) : Result := runUnassigned 0xE4#8 s

/-- 0xE5, unassigned (R303). -/
def execUnassignedE5 (s : State) : Result := runUnassigned 0xE5#8 s

/-- 0xE6, unassigned (R303). -/
def execUnassignedE6 (s : State) : Result := runUnassigned 0xE6#8 s

/-- 0xE7, unassigned (R303). -/
def execUnassignedE7 (s : State) : Result := runUnassigned 0xE7#8 s

/-- 0xE8, unassigned (R303). -/
def execUnassignedE8 (s : State) : Result := runUnassigned 0xE8#8 s

/-- 0xE9, unassigned (R303). -/
def execUnassignedE9 (s : State) : Result := runUnassigned 0xE9#8 s

/-- 0xEA, unassigned (R303). -/
def execUnassignedEA (s : State) : Result := runUnassigned 0xEA#8 s

/-- 0xEB, unassigned (R303). -/
def execUnassignedEB (s : State) : Result := runUnassigned 0xEB#8 s

/-- 0xEC, unassigned (R303). -/
def execUnassignedEC (s : State) : Result := runUnassigned 0xEC#8 s

/-- 0xED, unassigned (R303). -/
def execUnassignedED (s : State) : Result := runUnassigned 0xED#8 s

/-- 0xEE, unassigned (R303). -/
def execUnassignedEE (s : State) : Result := runUnassigned 0xEE#8 s

/-- 0xEF, unassigned (R303). -/
def execUnassignedEF (s : State) : Result := runUnassigned 0xEF#8 s

/-- 0xF0, unassigned (R303). -/
def execUnassignedF0 (s : State) : Result := runUnassigned 0xF0#8 s

/-- 0xF1, unassigned (R303). -/
def execUnassignedF1 (s : State) : Result := runUnassigned 0xF1#8 s

/-- 0xF2, unassigned (R303). -/
def execUnassignedF2 (s : State) : Result := runUnassigned 0xF2#8 s

/-- 0xF3, unassigned (R303). -/
def execUnassignedF3 (s : State) : Result := runUnassigned 0xF3#8 s

/-- 0xF4, unassigned (R303). -/
def execUnassignedF4 (s : State) : Result := runUnassigned 0xF4#8 s

/-- 0xF5, unassigned (R303). -/
def execUnassignedF5 (s : State) : Result := runUnassigned 0xF5#8 s

/-- 0xF6, unassigned (R303). -/
def execUnassignedF6 (s : State) : Result := runUnassigned 0xF6#8 s

/-- 0xF7, unassigned (R303). -/
def execUnassignedF7 (s : State) : Result := runUnassigned 0xF7#8 s

/-- 0xF8, unassigned (R303). -/
def execUnassignedF8 (s : State) : Result := runUnassigned 0xF8#8 s

/-- 0xF9, unassigned (R303). -/
def execUnassignedF9 (s : State) : Result := runUnassigned 0xF9#8 s

/-- 0xFA, unassigned (R303). -/
def execUnassignedFA (s : State) : Result := runUnassigned 0xFA#8 s

/-- 0xFB, unassigned (R303). -/
def execUnassignedFB (s : State) : Result := runUnassigned 0xFB#8 s

/-- 0xFC, unassigned (R303). -/
def execUnassignedFC (s : State) : Result := runUnassigned 0xFC#8 s

/-- 0xFD, unassigned (R303). -/
def execUnassignedFD (s : State) : Result := runUnassigned 0xFD#8 s

/-- 0xFE, unassigned (R303). -/
def execUnassignedFE (s : State) : Result := runUnassigned 0xFE#8 s

/-- 0xFF, unassigned (R303). -/
def execUnassignedFF (s : State) : Result := runUnassigned 0xFF#8 s

end Sys2Proof.Machine
end

