-- ==== Sys2Proof/Machine/Dispatch.lean ====
section
/-! DEFINITION. The dispatch of an instruction to its meaning, one arm per constructor. -/

namespace Sys2Proof.Machine

def exec (i : Instr) (s : State) : Host.Outcome State Fault Refusal :=
  match i with
  | .noop => Sys2Proof.Machine.execNoop s
  | .halt => Sys2Proof.Machine.execHalt s
  | .unassigned02 => Sys2Proof.Machine.execUnassigned02 s
  | .unassigned03 => Sys2Proof.Machine.execUnassigned03 s
  | .unassigned04 => Sys2Proof.Machine.execUnassigned04 s
  | .unassigned05 => Sys2Proof.Machine.execUnassigned05 s
  | .unassigned06 => Sys2Proof.Machine.execUnassigned06 s
  | .unassigned07 => Sys2Proof.Machine.execUnassigned07 s
  | .unassigned08 => Sys2Proof.Machine.execUnassigned08 s
  | .unassigned09 => Sys2Proof.Machine.execUnassigned09 s
  | .unassigned0A => Sys2Proof.Machine.execUnassigned0A s
  | .unassigned0B => Sys2Proof.Machine.execUnassigned0B s
  | .unassigned0C => Sys2Proof.Machine.execUnassigned0C s
  | .unassigned0D => Sys2Proof.Machine.execUnassigned0D s
  | .unassigned0E => Sys2Proof.Machine.execUnassigned0E s
  | .unassigned0F => Sys2Proof.Machine.execUnassigned0F s
  | .loadLitA n => Sys2Proof.Machine.execLoadLitA n s
  | .loadLitB n => Sys2Proof.Machine.execLoadLitB n s
  | .loadMemA n => Sys2Proof.Machine.execLoadMemA n s
  | .loadMemB n => Sys2Proof.Machine.execLoadMemB n s
  | .unassigned14 => Sys2Proof.Machine.execUnassigned14 s
  | .unassigned15 => Sys2Proof.Machine.execUnassigned15 s
  | .unassigned16 => Sys2Proof.Machine.execUnassigned16 s
  | .unassigned17 => Sys2Proof.Machine.execUnassigned17 s
  | .unassigned18 => Sys2Proof.Machine.execUnassigned18 s
  | .unassigned19 => Sys2Proof.Machine.execUnassigned19 s
  | .unassigned1A => Sys2Proof.Machine.execUnassigned1A s
  | .unassigned1B => Sys2Proof.Machine.execUnassigned1B s
  | .unassigned1C => Sys2Proof.Machine.execUnassigned1C s
  | .unassigned1D => Sys2Proof.Machine.execUnassigned1D s
  | .unassigned1E => Sys2Proof.Machine.execUnassigned1E s
  | .unassigned1F => Sys2Proof.Machine.execUnassigned1F s
  | .storeA n => Sys2Proof.Machine.execStoreA n s
  | .storeB n => Sys2Proof.Machine.execStoreB n s
  | .unassigned22 => Sys2Proof.Machine.execUnassigned22 s
  | .moveAB => Sys2Proof.Machine.execMoveAB s
  | .moveAX => Sys2Proof.Machine.execMoveAX s
  | .moveBA => Sys2Proof.Machine.execMoveBA s
  | .moveBX => Sys2Proof.Machine.execMoveBX s
  | .moveXA => Sys2Proof.Machine.execMoveXA s
  | .moveXB => Sys2Proof.Machine.execMoveXB s
  | .swap => Sys2Proof.Machine.execSwap s
  | .unassigned2A => Sys2Proof.Machine.execUnassigned2A s
  | .unassigned2B => Sys2Proof.Machine.execUnassigned2B s
  | .unassigned2C => Sys2Proof.Machine.execUnassigned2C s
  | .unassigned2D => Sys2Proof.Machine.execUnassigned2D s
  | .unassigned2E => Sys2Proof.Machine.execUnassigned2E s
  | .unassigned2F => Sys2Proof.Machine.execUnassigned2F s
  | .addB => Sys2Proof.Machine.execAddB s
  | .addX => Sys2Proof.Machine.execAddX s
  | .addMemN n => Sys2Proof.Machine.execAddMemN n s
  | .addMemB => Sys2Proof.Machine.execAddMemB s
  | .addMemX => Sys2Proof.Machine.execAddMemX s
  | .unassigned35 => Sys2Proof.Machine.execUnassigned35 s
  | .unassigned36 => Sys2Proof.Machine.execUnassigned36 s
  | .unassigned37 => Sys2Proof.Machine.execUnassigned37 s
  | .unassigned38 => Sys2Proof.Machine.execUnassigned38 s
  | .unassigned39 => Sys2Proof.Machine.execUnassigned39 s
  | .unassigned3A => Sys2Proof.Machine.execUnassigned3A s
  | .unassigned3B => Sys2Proof.Machine.execUnassigned3B s
  | .unassigned3C => Sys2Proof.Machine.execUnassigned3C s
  | .unassigned3D => Sys2Proof.Machine.execUnassigned3D s
  | .unassigned3E => Sys2Proof.Machine.execUnassigned3E s
  | .unassigned3F => Sys2Proof.Machine.execUnassigned3F s
  | .subB => Sys2Proof.Machine.execSubB s
  | .subX => Sys2Proof.Machine.execSubX s
  | .subMemN n => Sys2Proof.Machine.execSubMemN n s
  | .subMemB => Sys2Proof.Machine.execSubMemB s
  | .subMemX => Sys2Proof.Machine.execSubMemX s
  | .unassigned45 => Sys2Proof.Machine.execUnassigned45 s
  | .unassigned46 => Sys2Proof.Machine.execUnassigned46 s
  | .unassigned47 => Sys2Proof.Machine.execUnassigned47 s
  | .unassigned48 => Sys2Proof.Machine.execUnassigned48 s
  | .unassigned49 => Sys2Proof.Machine.execUnassigned49 s
  | .unassigned4A => Sys2Proof.Machine.execUnassigned4A s
  | .unassigned4B => Sys2Proof.Machine.execUnassigned4B s
  | .unassigned4C => Sys2Proof.Machine.execUnassigned4C s
  | .unassigned4D => Sys2Proof.Machine.execUnassigned4D s
  | .unassigned4E => Sys2Proof.Machine.execUnassigned4E s
  | .unassigned4F => Sys2Proof.Machine.execUnassigned4F s
  | .orB => Sys2Proof.Machine.execOrB s
  | .orX => Sys2Proof.Machine.execOrX s
  | .orMemN n => Sys2Proof.Machine.execOrMemN n s
  | .orMemB => Sys2Proof.Machine.execOrMemB s
  | .orMemX => Sys2Proof.Machine.execOrMemX s
  | .unassigned55 => Sys2Proof.Machine.execUnassigned55 s
  | .unassigned56 => Sys2Proof.Machine.execUnassigned56 s
  | .unassigned57 => Sys2Proof.Machine.execUnassigned57 s
  | .unassigned58 => Sys2Proof.Machine.execUnassigned58 s
  | .unassigned59 => Sys2Proof.Machine.execUnassigned59 s
  | .unassigned5A => Sys2Proof.Machine.execUnassigned5A s
  | .unassigned5B => Sys2Proof.Machine.execUnassigned5B s
  | .unassigned5C => Sys2Proof.Machine.execUnassigned5C s
  | .unassigned5D => Sys2Proof.Machine.execUnassigned5D s
  | .unassigned5E => Sys2Proof.Machine.execUnassigned5E s
  | .unassigned5F => Sys2Proof.Machine.execUnassigned5F s
  | .xorB => Sys2Proof.Machine.execXorB s
  | .xorX => Sys2Proof.Machine.execXorX s
  | .xorMemN n => Sys2Proof.Machine.execXorMemN n s
  | .xorMemB => Sys2Proof.Machine.execXorMemB s
  | .xorMemX => Sys2Proof.Machine.execXorMemX s
  | .unassigned65 => Sys2Proof.Machine.execUnassigned65 s
  | .unassigned66 => Sys2Proof.Machine.execUnassigned66 s
  | .unassigned67 => Sys2Proof.Machine.execUnassigned67 s
  | .unassigned68 => Sys2Proof.Machine.execUnassigned68 s
  | .unassigned69 => Sys2Proof.Machine.execUnassigned69 s
  | .unassigned6A => Sys2Proof.Machine.execUnassigned6A s
  | .unassigned6B => Sys2Proof.Machine.execUnassigned6B s
  | .unassigned6C => Sys2Proof.Machine.execUnassigned6C s
  | .unassigned6D => Sys2Proof.Machine.execUnassigned6D s
  | .unassigned6E => Sys2Proof.Machine.execUnassigned6E s
  | .unassigned6F => Sys2Proof.Machine.execUnassigned6F s
  | .andB => Sys2Proof.Machine.execAndB s
  | .andX => Sys2Proof.Machine.execAndX s
  | .andMemN n => Sys2Proof.Machine.execAndMemN n s
  | .andMemB => Sys2Proof.Machine.execAndMemB s
  | .andMemX => Sys2Proof.Machine.execAndMemX s
  | .unassigned75 => Sys2Proof.Machine.execUnassigned75 s
  | .unassigned76 => Sys2Proof.Machine.execUnassigned76 s
  | .unassigned77 => Sys2Proof.Machine.execUnassigned77 s
  | .unassigned78 => Sys2Proof.Machine.execUnassigned78 s
  | .unassigned79 => Sys2Proof.Machine.execUnassigned79 s
  | .unassigned7A => Sys2Proof.Machine.execUnassigned7A s
  | .unassigned7B => Sys2Proof.Machine.execUnassigned7B s
  | .unassigned7C => Sys2Proof.Machine.execUnassigned7C s
  | .unassigned7D => Sys2Proof.Machine.execUnassigned7D s
  | .unassigned7E => Sys2Proof.Machine.execUnassigned7E s
  | .unassigned7F => Sys2Proof.Machine.execUnassigned7F s
  | .unassigned80 => Sys2Proof.Machine.execUnassigned80 s
  | .notA => Sys2Proof.Machine.execNotA s
  | .bitsl => Sys2Proof.Machine.execBitsl s
  | .bitsr => Sys2Proof.Machine.execBitsr s
  | .inc => Sys2Proof.Machine.execInc s
  | .dec => Sys2Proof.Machine.execDec s
  | .unassigned86 => Sys2Proof.Machine.execUnassigned86 s
  | .unassigned87 => Sys2Proof.Machine.execUnassigned87 s
  | .unassigned88 => Sys2Proof.Machine.execUnassigned88 s
  | .unassigned89 => Sys2Proof.Machine.execUnassigned89 s
  | .unassigned8A => Sys2Proof.Machine.execUnassigned8A s
  | .unassigned8B => Sys2Proof.Machine.execUnassigned8B s
  | .unassigned8C => Sys2Proof.Machine.execUnassigned8C s
  | .unassigned8D => Sys2Proof.Machine.execUnassigned8D s
  | .unassigned8E => Sys2Proof.Machine.execUnassigned8E s
  | .unassigned8F => Sys2Proof.Machine.execUnassigned8F s
  | .outCmd n => Sys2Proof.Machine.execOutCmd n s
  | .outAddr n => Sys2Proof.Machine.execOutAddr n s
  | .outDat n => Sys2Proof.Machine.execOutDat n s
  | .outDatMem n => Sys2Proof.Machine.execOutDatMem n s
  | .unassigned94 => Sys2Proof.Machine.execUnassigned94 s
  | .unassigned95 => Sys2Proof.Machine.execUnassigned95 s
  | .unassigned96 => Sys2Proof.Machine.execUnassigned96 s
  | .unassigned97 => Sys2Proof.Machine.execUnassigned97 s
  | .unassigned98 => Sys2Proof.Machine.execUnassigned98 s
  | .unassigned99 => Sys2Proof.Machine.execUnassigned99 s
  | .unassigned9A => Sys2Proof.Machine.execUnassigned9A s
  | .unassigned9B => Sys2Proof.Machine.execUnassigned9B s
  | .unassigned9C => Sys2Proof.Machine.execUnassigned9C s
  | .unassigned9D => Sys2Proof.Machine.execUnassigned9D s
  | .unassigned9E => Sys2Proof.Machine.execUnassigned9E s
  | .unassigned9F => Sys2Proof.Machine.execUnassigned9F s
  | .jmp n => Sys2Proof.Machine.execJmp n s
  | .jmpc n => Sys2Proof.Machine.execJmpc n s
  | .jmpnc n => Sys2Proof.Machine.execJmpnc n s
  | .jmpz n => Sys2Proof.Machine.execJmpz n s
  | .jmpnz n => Sys2Proof.Machine.execJmpnz n s
  | .jmpp n => Sys2Proof.Machine.execJmpp n s
  | .jmpnp n => Sys2Proof.Machine.execJmpnp n s
  | .call n => Sys2Proof.Machine.execCall n s
  | .ret => Sys2Proof.Machine.execRet s
  | .unassignedA9 => Sys2Proof.Machine.execUnassignedA9 s
  | .unassignedAA => Sys2Proof.Machine.execUnassignedAA s
  | .unassignedAB => Sys2Proof.Machine.execUnassignedAB s
  | .unassignedAC => Sys2Proof.Machine.execUnassignedAC s
  | .unassignedAD => Sys2Proof.Machine.execUnassignedAD s
  | .unassignedAE => Sys2Proof.Machine.execUnassignedAE s
  | .unassignedAF => Sys2Proof.Machine.execUnassignedAF s
  | .pushA => Sys2Proof.Machine.execPushA s
  | .pushB => Sys2Proof.Machine.execPushB s
  | .popA => Sys2Proof.Machine.execPopA s
  | .popB => Sys2Proof.Machine.execPopB s
  | .stkrest => Sys2Proof.Machine.execStkrest s
  | .unassignedB5 => Sys2Proof.Machine.execUnassignedB5 s
  | .unassignedB6 => Sys2Proof.Machine.execUnassignedB6 s
  | .unassignedB7 => Sys2Proof.Machine.execUnassignedB7 s
  | .unassignedB8 => Sys2Proof.Machine.execUnassignedB8 s
  | .unassignedB9 => Sys2Proof.Machine.execUnassignedB9 s
  | .unassignedBA => Sys2Proof.Machine.execUnassignedBA s
  | .unassignedBB => Sys2Proof.Machine.execUnassignedBB s
  | .unassignedBC => Sys2Proof.Machine.execUnassignedBC s
  | .unassignedBD => Sys2Proof.Machine.execUnassignedBD s
  | .unassignedBE => Sys2Proof.Machine.execUnassignedBE s
  | .unassignedBF => Sys2Proof.Machine.execUnassignedBF s
  | .unassignedC0 => Sys2Proof.Machine.execUnassignedC0 s
  | .unassignedC1 => Sys2Proof.Machine.execUnassignedC1 s
  | .unassignedC2 => Sys2Proof.Machine.execUnassignedC2 s
  | .unassignedC3 => Sys2Proof.Machine.execUnassignedC3 s
  | .unassignedC4 => Sys2Proof.Machine.execUnassignedC4 s
  | .unassignedC5 => Sys2Proof.Machine.execUnassignedC5 s
  | .unassignedC6 => Sys2Proof.Machine.execUnassignedC6 s
  | .unassignedC7 => Sys2Proof.Machine.execUnassignedC7 s
  | .unassignedC8 => Sys2Proof.Machine.execUnassignedC8 s
  | .unassignedC9 => Sys2Proof.Machine.execUnassignedC9 s
  | .unassignedCA => Sys2Proof.Machine.execUnassignedCA s
  | .unassignedCB => Sys2Proof.Machine.execUnassignedCB s
  | .unassignedCC => Sys2Proof.Machine.execUnassignedCC s
  | .unassignedCD => Sys2Proof.Machine.execUnassignedCD s
  | .unassignedCE => Sys2Proof.Machine.execUnassignedCE s
  | .unassignedCF => Sys2Proof.Machine.execUnassignedCF s
  | .unassignedD0 => Sys2Proof.Machine.execUnassignedD0 s
  | .unassignedD1 => Sys2Proof.Machine.execUnassignedD1 s
  | .unassignedD2 => Sys2Proof.Machine.execUnassignedD2 s
  | .unassignedD3 => Sys2Proof.Machine.execUnassignedD3 s
  | .unassignedD4 => Sys2Proof.Machine.execUnassignedD4 s
  | .unassignedD5 => Sys2Proof.Machine.execUnassignedD5 s
  | .unassignedD6 => Sys2Proof.Machine.execUnassignedD6 s
  | .unassignedD7 => Sys2Proof.Machine.execUnassignedD7 s
  | .unassignedD8 => Sys2Proof.Machine.execUnassignedD8 s
  | .unassignedD9 => Sys2Proof.Machine.execUnassignedD9 s
  | .unassignedDA => Sys2Proof.Machine.execUnassignedDA s
  | .unassignedDB => Sys2Proof.Machine.execUnassignedDB s
  | .unassignedDC => Sys2Proof.Machine.execUnassignedDC s
  | .unassignedDD => Sys2Proof.Machine.execUnassignedDD s
  | .unassignedDE => Sys2Proof.Machine.execUnassignedDE s
  | .unassignedDF => Sys2Proof.Machine.execUnassignedDF s
  | .unassignedE0 => Sys2Proof.Machine.execUnassignedE0 s
  | .unassignedE1 => Sys2Proof.Machine.execUnassignedE1 s
  | .unassignedE2 => Sys2Proof.Machine.execUnassignedE2 s
  | .unassignedE3 => Sys2Proof.Machine.execUnassignedE3 s
  | .unassignedE4 => Sys2Proof.Machine.execUnassignedE4 s
  | .unassignedE5 => Sys2Proof.Machine.execUnassignedE5 s
  | .unassignedE6 => Sys2Proof.Machine.execUnassignedE6 s
  | .unassignedE7 => Sys2Proof.Machine.execUnassignedE7 s
  | .unassignedE8 => Sys2Proof.Machine.execUnassignedE8 s
  | .unassignedE9 => Sys2Proof.Machine.execUnassignedE9 s
  | .unassignedEA => Sys2Proof.Machine.execUnassignedEA s
  | .unassignedEB => Sys2Proof.Machine.execUnassignedEB s
  | .unassignedEC => Sys2Proof.Machine.execUnassignedEC s
  | .unassignedED => Sys2Proof.Machine.execUnassignedED s
  | .unassignedEE => Sys2Proof.Machine.execUnassignedEE s
  | .unassignedEF => Sys2Proof.Machine.execUnassignedEF s
  | .unassignedF0 => Sys2Proof.Machine.execUnassignedF0 s
  | .unassignedF1 => Sys2Proof.Machine.execUnassignedF1 s
  | .unassignedF2 => Sys2Proof.Machine.execUnassignedF2 s
  | .unassignedF3 => Sys2Proof.Machine.execUnassignedF3 s
  | .unassignedF4 => Sys2Proof.Machine.execUnassignedF4 s
  | .unassignedF5 => Sys2Proof.Machine.execUnassignedF5 s
  | .unassignedF6 => Sys2Proof.Machine.execUnassignedF6 s
  | .unassignedF7 => Sys2Proof.Machine.execUnassignedF7 s
  | .unassignedF8 => Sys2Proof.Machine.execUnassignedF8 s
  | .unassignedF9 => Sys2Proof.Machine.execUnassignedF9 s
  | .unassignedFA => Sys2Proof.Machine.execUnassignedFA s
  | .unassignedFB => Sys2Proof.Machine.execUnassignedFB s
  | .unassignedFC => Sys2Proof.Machine.execUnassignedFC s
  | .unassignedFD => Sys2Proof.Machine.execUnassignedFD s
  | .unassignedFE => Sys2Proof.Machine.execUnassignedFE s
  | .unassignedFF => Sys2Proof.Machine.execUnassignedFF s

end Sys2Proof.Machine
end

