-- ==== Sys2Proof/Machine/Step.lean ====
section
/-! DEFINITION. One step of the machine as the host counts it: one whole instruction (40_cycle R156; log 1). The cycle,
the spec's own step, is `cycle` of Machine/Cycle.lean. -/

namespace Sys2Proof.Machine

/-- One instruction. A halted machine runs one cycle, whose decode step does nothing (40_cycle R134, R149). Up to counter
4 the fetch cycles still due are run and the fetched instruction is executed (R136, R156); past 4 the cycles of the
cached micro-program are run to their end (R135; log 17). -/
def step (s : State) : Host.Outcome State Fault Refusal :=
  if s.halted then cycle s
  else if s.microCounter ≤ 4 then andThen (fetch s) fun t => exec (fetchedInstr t) t
  else finishInstruction 8 s

/-- The instruction numbered as spec/opcode_table.json numbers it, placed where the next step fetches: at PC, opcode
first. The fetch needs a machine that is not halted and is at the start of an instruction (40_cycle R134, R136), so
both are set; nothing else changes. It stands for the host's load between reset and the first cycle (70_reset R342;
log 16). -/
def State.withFetchWord (s : State) (nbits w : Nat) : State :=
  { storeBytes s s.pc (tableBytes nbits w) with halted := false, microCounter := 0 }

end Sys2Proof.Machine
end

