-- ==== Sys2Proof/Machine/Admission.lean ====
section
/-! DEFINITION. How each opcode row was obtained (30_encoding R118), the cycles it takes (70_reset R354), and the switch
that a reader of 93 U3 and U4 may turn to refuse the rows the source does not show (log 7, log 8). -/

namespace Sys2Proof.Machine

/-- The `basis` of an opcode row (30_encoding R118). -/
inductive Basis where
  | sourceValue | sourceOrder | specDecision | sourceUnknown
  deriving DecidableEq, Repr

/-- The basis of an opcode by its low nibble, for the families with more than one basis (30_encoding R118). -/
def basis (op : Byte) : Basis :=
  let lo := op.toNat % 16
  match op.toNat / 16 with
  | 0x0 => if lo = 0 then .specDecision else if lo = 1 then .sourceValue else .sourceUnknown
  | 0x1 => if lo = 0 then .sourceValue else if lo ≤ 3 then .sourceOrder else .sourceUnknown
  | 0x2 => if lo ≤ 1 ∨ (3 ≤ lo ∧ lo ≤ 9) then .specDecision else .sourceUnknown
  | 0x3 => if lo ≤ 4 then .sourceOrder else .sourceUnknown
  | 0x4 => if lo ≤ 4 then .sourceOrder else .sourceUnknown
  | 0x5 => if lo ≤ 4 then .sourceOrder else .sourceUnknown
  | 0x6 => if lo ≤ 4 then .sourceOrder else .sourceUnknown
  | 0x7 => if lo ≤ 4 then .sourceOrder else .sourceUnknown
  | 0x8 => if 1 ≤ lo ∧ lo ≤ 5 then .sourceOrder else .sourceUnknown
  | 0x9 => if lo ≤ 3 then .specDecision else .sourceUnknown
  | 0xA => if lo = 3 then .sourceValue else if lo ≤ 8 then .sourceOrder else .sourceUnknown
  | 0xB => if lo ≤ 4 then .sourceOrder else .sourceUnknown
  | _ => .sourceUnknown

/-- An opcode is unassigned: one of the 193 of 30_encoding R112. -/
def unassigned (op : Byte) : Bool := basis op == .sourceUnknown

/-- The cycles an instruction takes: the fetch and its micro-program (40_cycle R158; 70_reset R354). -/
def instrCycles (op flg : Byte) : Nat := fetchLen + (rom op flg).length

/-- Which opcodes a run admits. -/
inductive Admission where
  /-- every opcode: the machine of this spec -/
  | everything
  /-- not 0x22, 0x2A, 0x2B, whose meaning the source does not list (93 U3) -/
  | listedOnly
  /-- nor the `spec-decision` rows (93 U4; 30_encoding R118) -/
  | shownOnly
  deriving DecidableEq, Repr

/-- 0x22, 0x2A and 0x2B: in a range the source calls populated, with nothing said of what is there (42_store_move R200). -/
def unlistedMove (op : Byte) : Bool := op == 0x22#8 || op == 0x2A#8 || op == 0x2B#8

/-- The switch of 93 U3 and U4. -/
def admits (mode : Admission) (op : Byte) : Bool :=
  match mode with
  | .everything => true
  | .listedOnly => !unlistedMove op
  | .shownOnly => !unlistedMove op && !(basis op == .specDecision)

/-- A step under an admission switch: an instruction the switch does not admit is refused by name before it runs. -/
def stepUnder (mode : Admission) (s : State) : Result :=
  if s.halted then step s
  else if s.microCounter ≤ 4 then
    andThen (fetch s) fun t => if admits mode t.ir then step s else .refused (.notAdmitted t.ir)
  else step s

end Sys2Proof.Machine
end

