-- ==== Sys2Proof/Machine/HostInterface.lean ====
section
/-! DEFINITION. The host's moves on the machine (60_exceptions R327; 20_memory R88; 70_reset R340) and the protocol they
keep (40_cycle R160; 60_exceptions R318). A session is a machine with the phase of the protocol; the cycle's two
sub-steps are moves of their own, so the state between them can be looked at (40_cycle R133). -/

namespace Sys2Proof.Machine

/-- Reset: every piece of the machine's state, the memory included (70_reset R340). The two fields of the model's own are
no state of the machine and are kept: what has left through the output stays out, and the run's free value is the
run's (log 5, log 6). -/
def hostReset (s : State) : State := { State.reset with out := s.out, idleBusValue := s.idleBusValue }

/-- `loadImage(bytes)`: replaces all 256 cells, or fails and changes no cell (20_memory R88; 60_exceptions R315). -/
def loadImage (bytes : List Byte) (s : State) : Result :=
  if WellFormed.image bytes then .next { s with mem := imageFrom 0 bytes }
  else .fault (.sizeMismatch bytes.length)

/-! ### The state a host may ask for -/

/-- The eleven bus components (10_state R41). -/
def allComponents : List Component :=
  [.reg .a, .reg .b, .reg .x, .reg .pc, .reg .sp, .reg .ir, .reg .opd, .reg .mar, .reg .alu, .reg .flg, .mem]

/-- "Which components are currently marked active", each with its `pendingAction` (60_exceptions R327, R330). -/
def activeComponents (s : State) : List (Component × PendingAction) :=
  (allComponents.map fun c => (c, pendingOf s.pending c)).filter fun entry => decide (entry.2 ≠ .none)

/-! ### What an error leaves (60_exceptions R318) -/

/-- Resolving up to the first error, whose component is unmarked too (40_cycle R151; 60_exceptions R318). -/
def resolveResidue (cs : List Component) (s : State) : State :=
  match cs with
  | [] => s
  | c :: rest =>
    match resolve c s with
    | .next t => resolveResidue rest t
    | .fault _ => unmark c s
    | .refused _ => unmark c s

/-- The state an execute step leaves that fails: the resolves up to the failing one have happened, and nothing after it,
neither the emptying of the lists nor the bus copy, the output, the clocking, the bus reset or the counter (60_exceptions
R318; log 12). -/
def executeResidue (s : State) : State :=
  let t := resolveResidue s.txList s
  match resolveAll s.txList s with
  | .next _ => resolveResidue t.rxList t
  | .fault _ => t
  | .refused _ => t

/-! ### The session -/

/-- Where the protocol of the two calls stands (40_cycle R160; 60_exceptions R318). -/
inductive Phase where
  /-- between cycles -/
  | between
  /-- after a decode step, or after a harness marked components: an execute step is due -/
  | marked
  /-- after an error of a cycle: `Fault(e)`, left by reset only -/
  | dead (e : Fault)
  deriving DecidableEq, Repr

/-- A machine in the host's hands. -/
structure Session where
  machine : State
  phase : Phase
  deriving DecidableEq, Repr

/-- The moves of the host (60_exceptions R327) and the direct marking of a harness (40_cycle R153). -/
inductive Move where
  | readRegister (r : Reg)
  | readMemory
  | queryHalted
  | queryActive
  | queryLastBus
  | decodeStep
  | executeStep
  | loadImage (bytes : List Byte)
  | reset
  | markTransmit (c : Component)
  | markReceive (c : Component)
  deriving DecidableEq, Repr

/-- What a move answers. -/
inductive Reply where
  | done
  | byte (v : Byte)
  | image (bytes : List Byte)
  | flag (b : Bool)
  | components (cs : List (Component × PendingAction))
  /-- the error is surfaced to the caller of the move (60_exceptions R310) -/
  | error (e : Fault)
  deriving DecidableEq, Repr

/-- The outcome of a move: a session with a reply, or a move the spec gives no meaning. -/
inductive MoveOutcome where
  | ok (s : Session) (reply : Reply)
  | refused (r : Refusal)
  deriving DecidableEq, Repr

/-- The session after a sub-step: its new phase, or the fault state with what the error leaves (60_exceptions R318). -/
def afterSubStep (residue : State) (phase : Phase) (r : Result) : MoveOutcome :=
  match r with
  | .next t => .ok ⟨t, phase⟩ .done
  | .fault e => .ok ⟨residue, .dead e⟩ (.error e)
  | .refused e => .refused e

/-- A harness marks one component (40_cycle R153); one already marked the other way is refused (93 U13). DESIGN CHOICE:
that refusal comes before the test of `readable` (log 27). DESIGN CHOICE: any component may be marked to receive, ALU
and FLG too, as 40_cycle R151 says of `markReceive`, although no control line does it (10_state R31, R34; log 26). -/
def harnessMark (c : Component) (way : PendingAction) (s : State) : MoveOutcome :=
  match pendingOf s.pending c, way with
  | .receive, .transmit => .refused (.markedBothWays c)
  | .transmit, .receive => .refused (.markedBothWays c)
  | _, .transmit => afterSubStep s .marked (markTransmit c s)
  | _, .receive => afterSubStep s .marked (.next (markReceive c s))
  | _, .none => .refused .outOfProtocol

/-- The read-only moves, defined between cycles and between the two sub-steps (60_exceptions R327, R330); `readable`
restricts only the bus, not the host. -/
def readMove (m : Move) (s : Session) : MoveOutcome :=
  match m with
  | .readRegister r => .ok s (.byte (getReg s.machine r))
  | .readMemory => .ok s (.image (imageOf s.machine.mem))
  | .queryHalted => .ok s (.flag s.machine.halted)
  | .queryActive => .ok s (.components (activeComponents s.machine))
  | .queryLastBus => .ok s (.byte s.machine.lastBusValue)
  | .decodeStep => .refused .outOfProtocol
  | .executeStep => .refused .outOfProtocol
  | .loadImage _ => .refused .outOfProtocol
  | .reset => .refused .outOfProtocol
  | .markTransmit _ => .refused .outOfProtocol
  | .markReceive _ => .refused .outOfProtocol

/-- A move between cycles (60_exceptions R327; D37). -/
def moveBetween (m : Move) (s : Session) : MoveOutcome :=
  match m with
  | .decodeStep => afterSubStep s.machine .marked (decodeStep s.machine)
  | .loadImage bytes =>
    match loadImage bytes s.machine with
    | .next t => .ok ⟨t, .between⟩ .done
    | .fault e => .ok s (.error e)
    | .refused e => .refused e
  | .reset => .ok ⟨hostReset s.machine, .between⟩ .done
  | .markTransmit c => harnessMark c .transmit s.machine
  | .markReceive c => harnessMark c .receive s.machine
  | m => readMove m s

/-- A move between the decode step and the execute step of a cycle: the execute step, a read, or a harness's marking.
DESIGN CHOICE: the marking is admitted here after a decode step of the control unit too (log 25). -/
def moveMarked (m : Move) (s : Session) : MoveOutcome :=
  match m with
  | .executeStep => afterSubStep (executeResidue s.machine) .between (executeStep s.machine)
  | .markTransmit c => harnessMark c .transmit s.machine
  | .markReceive c => harnessMark c .receive s.machine
  | m => readMove m s

/-- A move on a machine that an error stopped: no move but reset changes it, and a host may still read what the error
left (60_exceptions R318; log 12). -/
def moveDead (m : Move) (s : Session) : MoveOutcome :=
  match m with
  | .reset => .ok ⟨hostReset s.machine, .between⟩ .done
  | m => readMove m s

/-- One move of the host. -/
def hostMove (m : Move) (s : Session) : MoveOutcome :=
  match s.phase with
  | .between => moveBetween m s
  | .marked => moveMarked m s
  | .dead _ => moveDead m s

/-- The session at power-on: the reset state, between cycles (70_reset R340). -/
def sessionAtReset : Session := ⟨State.reset, .between⟩

end Sys2Proof.Machine
end

