-- ==== Sys2Proof/Safety.lean ====
section
/-! DEFINITION. The terms that claims about runs use: what holds between cycles, the invariants of a run, and what an
instruction leaves behind beside its own effect. -/

namespace Sys2Proof.Machine

/-- Between cycles: the bus is empty (10_state R35), nothing is marked (R41), the ALU's cycle-local state is at its
default (R43). -/
abbrev State.AtRest (s : State) : Prop :=
  s.busHasValue = false ∧ s.busValue = 0#8 ∧ s.pending = Markings.clear ∧ s.txList = [] ∧ s.rxList = [] ∧
    s.aluOp = .add ∧ s.flagLatch = false

/-- Bits 7:3 of the flag byte are 0 (10_state R33). -/
abbrev State.FlagsClean (s : State) : Prop := s.flg &&& 0xF8#8 = 0#8

/-- The fixed point of a halted machine: the halt word is active and the counter is at 0 (40_cycle R149). -/
abbrev State.HaltedWell (s : State) : Prop :=
  s.halted = true → s.activeWord = word [.hlt, .rst] ∧ s.microCounter = 0

/-- Past counter 4 the cached micro-program is one of the ROM's and has a word for the counter (40_cycle R135, R159). -/
def State.CachedWell (s : State) : Prop :=
  4 < s.microCounter.val →
    ∃ ir flg : Byte, s.microProgram = rom ir flg ∧ s.microCounter.val - 4 < s.microProgram.length

/-- The invariant of every cycle (60_exceptions R320): the machine is between cycles, its memory is in canonical form, the
reserved flag bits are 0, a halted machine is at its fixed point, the cached micro-program fits the counter. -/
def State.CycleInv (s : State) : Prop :=
  s.AtRest ∧ s.mem.wf = true ∧ s.FlagsClean ∧ s.HaltedWell ∧ s.CachedWell

/-- The invariant of every instruction step: the same, at the start of an instruction. -/
def State.InstrInv (s : State) : Prop := s.CycleInv ∧ s.microCounter = 0

/-- Every byte of memory reads as before. -/
def KeepsMemory (s t : State) : Prop := ∀ addr : Byte, t.read addr = s.read addr

/-- Every byte of memory but the one at `slot` reads as before. -/
def KeepsMemoryBut (slot : Byte) (s t : State) : Prop := ∀ addr : Byte, addr ≠ slot → t.read addr = s.read addr

/-- The state after the four fetch cycles of an instruction with opcode `op` and operand byte `n`, from the state at
its start (40_cycle R157), with all state the rule does not name as the last fetch cycle leaves it. -/
def afterFetch (op n : Byte) (s : State) : State :=
  { s with
    ir := op
    opd := n
    pc := s.pc + 2#8
    mar := s.pc + 1#8
    alu := s.a + s.x
    aluFlags := aluFlagResult .add s.a s.x
    lastBusValue := n
    microCounter := 4
    activeWord := word [.mo, .oi, .pcp] }

/-- What the last cycle of an instruction leaves in the sequencer: the opcode latched, the program `p` cached, its last
word active, the counter back at 0 (40_cycle R135, R148). -/
def finished (op : Byte) (p : MicroProgram) (s : State) : State :=
  { s with ir := op, microProgram := p, activeWord := p.getLast?.getD 0#32, microCounter := 0 }

/-- What an instruction leaves that neither uses the ALU nor halts, beside its own effect: the above, and in the ALU the sum
of A and X as they were (40_cycle R140, R161). -/
def leaves (op : Byte) (p : MicroProgram) (s : State) : State :=
  { finished op p s with alu := s.a + s.x, aluFlags := aluFlagResult .add s.a s.x }

/-- What an ALU instruction leaves whose last decode step computes `o` on `a` and `x`: the result in A, ALU and the bus
copy, the flags in FLG (43_alu_binary R211). -/
def computed (op : Byte) (p : MicroProgram) (o : AluOp) (a x : Byte) (s : State) : State :=
  { finished op p s with
    a := aluResult o a x
    alu := aluResult o a x
    flg := flagByte (aluFlagResult o a x)
    aluFlags := aluFlagResult o a x
    lastBusValue := aluResult o a x }

/-- What a conditional jump with opcode `op` and operand `n` leaves, taken or not (46_jump R271 to R278). -/
def jumped (op : Byte) (taken : Bool) (n : Byte) (s : State) : State :=
  if taken then { leaves op [0x00000282#32] s with opd := n, pc := n, lastBusValue := n }
  else { leaves op [0x00000002#32] s with opd := n, lastBusValue := s.idleBusValue }

/-- The state in which the bus transfer of a cycle finds the machine: after the immediate effects and the ALU computation
of the decode step (40_cycle R139, R140). -/
def afterDecode (w : CtrlWord) (s : State) : State := computeAlu w (immediateEffects w s)

/-- The opcodes whose micro-program uses the operand byte (30_encoding R102). -/
def usesOperand (op : Byte) : Bool :=
  let lo := op.toNat % 16
  match op.toNat / 16 with
  | 0x1 => decide (lo ≤ 3)
  | 0x2 => decide (lo ≤ 1)
  | 0x3 => lo == 2
  | 0x4 => lo == 2
  | 0x5 => lo == 2
  | 0x6 => lo == 2
  | 0x7 => lo == 2
  | 0x9 => decide (lo ≤ 3)
  | 0xA => decide (lo ≤ 7)
  | _ => false

/-- One of the thirty ALU instructions, by opcode: those that write the flags (10_state R34). -/
def writesFlags (op : Byte) : Bool :=
  let lo := op.toNat % 16
  let hi := op.toNat / 16
  (decide (3 ≤ hi) && decide (hi ≤ 7) && decide (lo ≤ 4)) || (hi == 8 && decide (1 ≤ lo) && decide (lo ≤ 5))

/-- An instruction that stores a byte, by opcode: the stores, `call`, the pushes (20_memory R73). -/
def storesByte (op : Byte) : Bool :=
  op == 0x20#8 || op == 0x21#8 || op == 0xA7#8 || op == 0xB0#8 || op == 0xB1#8

/-- An output instruction, by opcode (45_output R265). -/
def emitsOutput (op : Byte) : Bool := op.toNat / 16 == 9 && decide (op.toNat % 16 ≤ 3)

/-- An instruction that writes X, by opcode (70_reset R347; 42_store_move R193, R195). -/
def writesX (op : Byte) : Bool :=
  let lo := op.toNat % 16
  let hi := op.toNat / 16
  (decide (3 ≤ hi) && decide (hi ≤ 7) && decide (lo ≤ 4) && decide (lo ≠ 1)) || op == 0x84#8 || op == 0x85#8
    || op == 0x29#8 || op == 0x24#8 || op == 0x26#8

/-- An instruction that writes A, by opcode (10_state R45): the ALU instructions and the loads, moves, `swap` and `pop`
into A. -/
def writesA (op : Byte) : Bool := writesFlags op || [0x10#8, 0x12#8, 0x25#8, 0x27#8, 0x29#8, 0xB2#8].contains op

/-- An instruction that writes B, by opcode (10_state R45). -/
def writesB (op : Byte) : Bool := [0x11#8, 0x13#8, 0x23#8, 0x28#8, 0x29#8, 0xB3#8].contains op

/-- An instruction that moves MAR after the fetch, by opcode (10_state R45): those with a data access of memory. -/
def writesMar (op : Byte) : Bool :=
  let lo := op.toNat % 16
  let hi := op.toNat / 16
  storesByte op || [0x12#8, 0x13#8, 0x93#8, 0xA8#8, 0xB2#8, 0xB3#8].contains op
    || (decide (3 ≤ hi) && decide (hi ≤ 7) && decide (2 ≤ lo) && decide (lo ≤ 4))

/-- An instruction that moves SP, by opcode (10_state R28): `call`, `return` and the stack family. -/
def movesSp (op : Byte) : Bool := op == 0xA7#8 || op == 0xA8#8 || (op.toNat / 16 == 11 && decide (op.toNat % 16 ≤ 4))

/-- An instruction that may write PC beside the fetch, by opcode (10_state R26): jumps, `call`, `return`. -/
def writesPc (op : Byte) : Bool := op.toNat / 16 == 10 && decide (op.toNat % 16 ≤ 8)

end Sys2Proof.Machine
end

