-- ==== Sys2Proof/Certificates/Slice0/Obligations.lean ====
section
/-! DEFINITION. The statements for the provers, from the numbered rules of spec/. An instruction's statement gives the whole
next state of `exec` from any state between cycles, after the fetch has put the opcode's address behind PC; control
words are written as the numbers the rules give. Every field not named in an equation is unchanged by it. -/

open Sys2Proof Sys2Proof.Machine

/-! ### Reset and invariants -/

/-- The state after reset (10_state R46; 70_reset R340). STACK_TOP's number and the values of the sequencer, the bus and
the ALU's local state are the spec's decisions D13 and D14 (log 9, log 11). -/
def Obligations.ResetValues : Prop :=
  (∀ r : Reg, r ≠ .sp → getReg State.reset r = 0#8) ∧ getReg State.reset .sp = 0xFF#8 ∧
    (∀ addr : Byte, State.reset.read addr = 0#8) ∧ State.reset.halted = false ∧
    State.reset.microCounter = 0 ∧ State.reset.activeWord = 0#32 ∧ State.reset.microProgram = [] ∧
    State.reset.busHasValue = false ∧ State.reset.busValue = 0#8 ∧
    (∀ c : Component, pendingOf State.reset.pending c = .none) ∧ State.reset.txList = [] ∧
    State.reset.rxList = [] ∧ State.reset.aluOp = .add ∧ State.reset.aluFlags = 0#3 ∧
    State.reset.flagLatch = false ∧ State.reset.lastBusValue = 0#8

/-- The invariants hold at reset. -/
def Obligations.ResetSatisfiesInvariants : Prop := State.reset.CycleInv ∧ State.reset.InstrInv

/-- Every step of the machine from a state between cycles, at the start of an instruction or inside one, ends between
cycles at the start of an instruction, with the memory in canonical form, the reserved flag bits 0 and a halted
machine at its fixed point. -/
def Obligations.StepKeepsInvariant : Prop :=
  ∀ s t : State, s.CycleInv → step s = .next t → t.InstrInv

/-- Every cycle keeps the invariant of cycles (10_state R33, R35, R41, R43; 40_cycle R149, R159). -/
def Obligations.CycleKeepsInvariant : Prop :=
  ∀ s t : State, s.CycleInv → cycle s = .next t → t.CycleInv

/-- No cycle driven by the fetch program and the ROM fails (60_exceptions R320). -/
def Obligations.CycleNeverFails : Prop := ∀ s : State, s.CycleInv → ∃ t, cycle s = .next t

/-- No step fails, whatever the bytes in memory (60_exceptions R320; 30_encoding R112). -/
def Obligations.StepAlwaysCompletes : Prop := ∀ s : State, s.CycleInv → ∃ t, step s = .next t

/-! ### Control words and cycles -/

/-- The well-formed control words are those of 40_cycle R132 (a) to (e); any other word is refused (log 13). -/
def Obligations.WellFormedWordConditions : Prop :=
  ∀ w : CtrlWord,
    (WellFormed.controlWord w = true ↔
      (∀ l ∈ [Line.sub, .or, .xor, .and, .not, .shl, .shr], ∀ l' ∈ [Line.sub, .or, .xor, .and, .not, .shl, .shr],
        has l w = true → has l' w = true → l = l') ∧
      ¬(has .pcp w = true ∧ has .pcm w = true) ∧ ¬(has .spp w = true ∧ has .spm w = true) ∧
      ¬(has .spr w = true ∧ (has .spp w = true ∨ has .spm w = true)) ∧
      ¬(has .ai w = true ∧ has .ao w = true) ∧ ¬(has .bi w = true ∧ has .bo w = true) ∧
      ¬(has .xi w = true ∧ has .xo w = true) ∧ ¬(has .pci w = true ∧ has .pco w = true) ∧
      ¬(has .oi w = true ∧ has .oo w = true) ∧ ¬(has .mi w = true ∧ has .mo w = true) ∧
      ¬(has .x1 w = true ∧ has .xi w = true) ∧
      ¬(has .pci w = true ∧ (has .pcp w = true ∨ has .pcm w = true)) ∧
      ¬(has .mai w = true ∧ has .mi w = true)) ∧
    (WellFormed.controlWord w = false → ∀ s : State, ∃ e, wordCycle w s = .refused e)

/-- A word with the halt line: the decode step writes the active word and `halted`, and does nothing else; the execute
step of the same cycle still sees `RST` and `OUT` (40_cycle R137). The model's reading: the bus copy takes the free value
(log 5), `OUT` fails here and transmit and receive lines do not, where 60_exceptions R312 and R313 speak of every word
with such lines (log 13). -/
def Obligations.HaltWordStopsDecodeStep : Prop :=
  ∀ (w : CtrlWord) (s : State), s.AtRest → WellFormed.controlWord w = true → has .hlt w = true →
    decodeWord w s = .next { s with activeWord := w, halted := true } ∧
      (has .out w = true → wordCycle w s = .fault (.busUnwritten .outLine)) ∧
      (has .out w = false →
        wordCycle w s = .next { s with
          activeWord := w
          halted := true
          lastBusValue := s.idleBusValue
          microCounter := if has .rst w = true then 0 else s.microCounter + 1 })

/-- The markings (40_cycle R130, R131, R138, R151, R152). IR, MAR and FLG, and they alone, fail when marked to transmit
(60_exceptions R314); any component may be marked to receive; a decode step marks exactly the components of the word's
lines, in line order, and fails with no error; a harness's mark does the same one at a time and is refused on a component
marked the other way (40_cycle R153; 93 U13). That the refusal comes before the test of `readable`, and that the
harness may mark any component and after a decode step too, are the model's choices (log 23, 25, 26, 27). -/
def Obligations.MarkingRules : Prop :=
  (∀ (r : Reg) (s : State), r = .ir ∨ r = .mar ∨ r = .flg → markTransmit (.reg r) s = .fault (.readForbidden r)) ∧
    (∀ (c : Component) (s : State), c ≠ .reg .ir → c ≠ .reg .mar → c ≠ .reg .flg →
      markTransmit c s = .next { s with pending := setPending s.pending c .transmit, txList := s.txList ++ [c] }) ∧
    (∀ (c d : Component) (s : State), (markReceive c s).rxList = s.rxList ++ [c] ∧
      pendingOf (markReceive c s).pending d = if d = c then .receive else pendingOf s.pending d) ∧
    (∀ (w : CtrlWord) (s : State) (e : Fault), decodeWord w s ≠ .fault e) ∧
    (∀ w : CtrlWord,
      let set := List.filterMap fun entry : Nat × Component => if w.getLsbD entry.1 then some entry.2 else none
      transmitters w = set [(4, .mem), (7, .reg .opd), (8, .reg .pc), (13, .reg .a), (15, .reg .b), (17, .reg .x),
        (19, .reg .sp), (23, .reg .alu)] ∧
      receivers w = set [(2, .reg .mar), (3, .mem), (5, .reg .ir), (6, .reg .opd), (9, .reg .pc), (12, .reg .a),
        (14, .reg .b), (16, .reg .x)]) ∧
    (∀ (w : CtrlWord) (s : State), s.AtRest → WellFormed.controlWord w = true → has .hlt w = false →
      ∃ t, decodeWord w s = .next t ∧ t.txList = transmitters w ∧ t.rxList = receivers w ∧
        ∀ c : Component, pendingOf t.pending c =
          if c ∈ transmitters w then .transmit else if c ∈ receivers w then .receive else .none) ∧
    ∀ (c : Component) (s : State) (p : Phase), p = .between ∨ p = .marked →
      (pendingOf s.pending c ≠ .transmit →
        hostMove (.markReceive c) ⟨s, p⟩ = .ok ⟨markReceive c s, .marked⟩ .done) ∧
      (pendingOf s.pending c = .transmit → hostMove (.markReceive c) ⟨s, p⟩ = .refused (.markedBothWays c)) ∧
      (pendingOf s.pending c = .receive → hostMove (.markTransmit c) ⟨s, p⟩ = .refused (.markedBothWays c)) ∧
      (pendingOf s.pending c ≠ .receive →
        (∀ t, markTransmit c s = .next t → hostMove (.markTransmit c) ⟨s, p⟩ = .ok ⟨t, .marked⟩ .done) ∧
        ∀ e, markTransmit c s = .fault e → hostMove (.markTransmit c) ⟨s, p⟩ = .ok ⟨s, .dead e⟩ (.error e))

/-- A cycle, driven by any control word from any state, can raise no error but the two of the bus; nor can a step
(60_exceptions R311, R316, R329). -/
def Obligations.OnlyBusErrorsFromCycles : Prop :=
  (∀ (w : CtrlWord) (s : State) (e : Fault), wordCycle w s = .fault e →
      (∃ c, e = .busConflict c) ∨ ∃ c, e = .busUnwritten c) ∧
    ∀ (s : State) (e : Fault), step s = .fault e → (∃ c, e = .busConflict c) ∨ ∃ c, e = .busUnwritten c

/-- Two transmit lines: the second component in line order is named (60_exceptions R312, R319). -/
def Obligations.SecondTransmitterConflicts : Prop :=
  ∀ (w : CtrlWord) (s : State) (c c' : Component) (rest : List Component), s.AtRest →
    WellFormed.controlWord w = true → has .hlt w = false → transmitters w = c :: c' :: rest →
    wordCycle w s = .fault (.busConflict c')

/-- No transmit line: the first receiver in line order is named, or the output line if there is no receiver
(60_exceptions R313, R319). -/
def Obligations.ReceiverWithoutTransmitterFails : Prop :=
  ∀ (w : CtrlWord) (s : State), s.AtRest → WellFormed.controlWord w = true → has .hlt w = false →
    transmitters w = [] →
    (∀ (c : Component) (rest : List Component), receivers w = c :: rest →
        wordCycle w s = .fault (.busUnwritten (.component c))) ∧
      (receivers w = [] → has .out w = true → wordCycle w s = .fault (.busUnwritten .outLine))

/-- One transmit line: the cycle succeeds, every receiver gets the one byte, taken after the immediate effects and the
ALU and before any receiver changes; the rest keeps what the decode step left (40_cycle R139 to R145). -/
def Obligations.SingleTransmitterFeedsAllReceivers : Prop :=
  ∀ (w : CtrlWord) (s : State) (c : Component), s.AtRest → s.mem.wf = true → WellFormed.controlWord w = true →
    has .hlt w = false → transmitters w = [c] →
    ∃ t, wordCycle w s = .next t ∧
      (∀ r : Reg, .reg r ∈ receivers w → getReg t r = componentValue (afterDecode w s) c) ∧
      (∀ r : Reg, .reg r ∉ receivers w → r ≠ .flg → getReg t r = getReg (afterDecode w s) r) ∧
      (∀ addr : Byte, t.read addr =
        if .mem ∈ receivers w ∧ addr = s.mar then componentValue (afterDecode w s) c else s.read addr) ∧
      t.lastBusValue = componentValue (afterDecode w s) c ∧
      t.out = (if has .out w = true then
        s.out ++ [(outputSelector t.ir, componentValue (afterDecode w s) c)] else s.out) ∧
      t.halted = s.halted

/-- The immediate effects and the ALU computation of a decode step, by the bits of the word (40_cycle R130, R139, R140),
from any state; and the whole next state of a cycle with no transmit line, no receive line and no output, which does
nothing else. What the bus copy takes then is a free value, the state's own (93 U6; log 5). -/
def Obligations.ImmediateEffectsAndIdleWord : Prop :=
  (∀ (w : CtrlWord) (s : State), WellFormed.controlWord w = true →
    let x := if w.getLsbD 18 then 1#8 else s.x
    let o : AluOp := if w.getLsbD 24 then .sub else if w.getLsbD 25 then .or else if w.getLsbD 26 then .xor
      else if w.getLsbD 27 then .and else if w.getLsbD 28 then .not else if w.getLsbD 29 then .shiftLeft
      else if w.getLsbD 30 then .shiftRight else s.aluOp
    afterDecode w s = { s with
      pc := if w.getLsbD 10 then s.pc + 1#8 else if w.getLsbD 11 then s.pc - 1#8 else s.pc
      sp := if w.getLsbD 20 then s.sp + 1#8 else if w.getLsbD 21 then s.sp - 1#8
        else if w.getLsbD 22 then 0xFF#8 else s.sp
      x := x
      aluOp := o
      alu := aluResult o s.a x
      aluFlags := aluFlagResult o s.a x
      flagLatch := w.getLsbD 23 }) ∧
    ∀ (w : CtrlWord) (s : State), s.AtRest → WellFormed.controlWord w = true → has .hlt w = false →
      transmitters w = [] → receivers w = [] → has .out w = false →
      wordCycle w s = .next { afterDecode w s with
        activeWord := w
        aluOp := .add
        flagLatch := false
        lastBusValue := s.idleBusValue
        microCounter := if w.getLsbD 1 then 0 else s.microCounter + 1 }

/-- The clocking: the flags are latched in a cycle whose decode step saw `ALO` and are kept in any other; the operation
goes back to Add; the ALU register is not changed by the clocking; then the bus is reset (40_cycle R146, with R137 for a
halting word and R140 for what the decode step computed). That bits 7:3 are 0 is the spec's decision D5 (10_state R33;
log 10), that the ALU register is kept and Add restored in every cycle its reading of conflicts (10_state R31, D10). -/
def Obligations.FlagsLatchedOnlyWithAluOutput : Prop :=
  ∀ (w : CtrlWord) (s t : State), s.AtRest → wordCycle w s = .next t →
    (has .alo w = true ∧ has .hlt w = false →
        t.flg = flagByte (afterDecode w s).aluFlags ∧ t.flg &&& 0xF8#8 = 0#8) ∧
      (¬(has .alo w = true ∧ has .hlt w = false) → t.flg = s.flg) ∧ t.flagLatch = false ∧ t.aluOp = .add ∧
      t.alu = (if has .hlt w = true then s.alu else (afterDecode w s).alu) ∧ t.busHasValue = false ∧ t.busValue = 0#8

/-- The micro-counter after an execute step; the last word of every micro-program has the reset line, so every
instruction ends (40_cycle R148). -/
def Obligations.CounterAdvancesOrResets : Prop :=
  (∀ s t : State, executeStep s = .next t →
      t.microCounter.val = if has .rst s.activeWord = true then 0 else (s.microCounter.val + 1) % 8) ∧
    ∀ ir flg : Byte, (rom ir flg).length ≤ 4 ∧ ∃ last, (rom ir flg).getLast? = some last ∧ has .rst last = true

/-- The bus is empty after every execute step, and so are the coordinator's lists (40_cycle R143, R147). -/
def Obligations.BusEmptyAfterExecuteStep : Prop :=
  ∀ s t : State, executeStep s = .next t →
    t.busHasValue = false ∧ t.busValue = 0#8 ∧ t.txList = [] ∧ t.rxList = []

/-- A halted decode step changes nothing at all (40_cycle R134). -/
def Obligations.HaltedDecodeStepDoesNothing : Prop :=
  ∀ s : State, s.halted = true → decodeStep s = .next s

/-- A halted machine is at a fixed point of the cycle and of the step (40_cycle R149), once its bus copy holds the value of
a cycle with no transmitter, as it does from the halting cycle on. -/
def Obligations.HaltedMachineIsFixed : Prop :=
  ∀ s : State, s.AtRest → s.halted = true → s.activeWord = 0x00000003#32 → s.microCounter = 0 →
    s.lastBusValue = s.idleBusValue → cycle s = .next s ∧ step s = .next s

/-- Markings a harness sets itself: two transmitters fail, one with any number of receivers succeeds, and with none it
changes no register (40_cycle R151, R152, R153). The error names the second component marked (60_exceptions R312, D35;
log 14), the restriction to readable components is 10_state R22 (D3). A component marked twice the same way acts once:
the model's choice (log 23); marking both ways is refused (`MarkingRules`). The memory resolves at MAR as it is then. -/
def Obligations.DirectMarkingObeysBusRules : Prop :=
  ∀ s : State, s.AtRest → s.mem.wf = true →
    (∀ c c' : Component, c ≠ c' → (∀ r, c = .reg r ∨ c' = .reg r → readable r = true) →
        andThen (markTransmitters [c, c'] s) executeStep = .fault (.busConflict c')) ∧
      ∀ (c : Component) (k : Nat) (cs : List Component), (∀ r, c = .reg r → readable r = true) → c ∉ cs →
        ∃ t, andThen (markTransmitters (c :: List.replicate k c) s) (fun u => executeStep (markReceivers cs u)) = .next t ∧
          t.lastBusValue = componentValue s c ∧
          (∀ r : Reg, .reg r ∈ cs → getReg t r = componentValue s c) ∧
          (∀ r : Reg, .reg r ∉ cs → getReg t r = getReg s r) ∧
          ∀ addr : Byte, t.read addr =
            if .mem ∈ cs ∧ addr = (if cs.idxOf (.reg .mar) < cs.idxOf .mem then componentValue s c else s.mar) then
              componentValue s c
            else s.read addr

/-- The decode ROM: 1 to 4 well-formed words with at most one transmit line, `RST` on the last and on no other; the flags
matter for 0xA1 to 0xA6 only; `[RST]` for an unassigned opcode and a condition that is false (40_cycle R154). -/
def Obligations.RomShape : Prop :=
  (∀ ir flg : Byte,
      1 ≤ (rom ir flg).length ∧ (rom ir flg).length ≤ 4 ∧
        (∀ w ∈ rom ir flg, WellFormed.controlWord w = true ∧ (transmitters w).length ≤ 1) ∧
        (∀ last, (rom ir flg).getLast? = some last → has .rst last = true) ∧
        ∀ w ∈ (rom ir flg).dropLast, has .rst w = false) ∧
    (∀ ir flg flg' : Byte, ir.toNat < 0xA1 ∨ 0xA6 < ir.toNat → rom ir flg = rom ir flg') ∧
    (∀ ir flg : Byte, unassigned ir = true → rom ir flg = [0x00000002#32]) ∧
    ∀ flg : Byte,
      rom 0xA1#8 flg = (if flg.getLsbD 1 = true then [0x00000282#32] else [0x00000002#32]) ∧
      rom 0xA2#8 flg = (if flg.getLsbD 1 = true then [0x00000002#32] else [0x00000282#32]) ∧
      rom 0xA3#8 flg = (if flg.getLsbD 0 = true then [0x00000282#32] else [0x00000002#32]) ∧
      rom 0xA4#8 flg = (if flg.getLsbD 0 = true then [0x00000002#32] else [0x00000282#32]) ∧
      rom 0xA5#8 flg = (if flg.getLsbD 2 = true then [0x00000282#32] else [0x00000002#32]) ∧
      rom 0xA6#8 flg = (if flg.getLsbD 2 = true then [0x00000002#32] else [0x00000282#32])

/-! ### Fetch, step, instruction -/

/-- The four fetch cycles (40_cycle R136, R157). -/
def Obligations.FetchProgramEffect : Prop :=
  ∀ s : State, s.AtRest → s.microCounter = 0 →
    fetch s = .next { s with
      ir := s.read s.pc
      opd := s.read (s.pc + 1#8)
      pc := s.pc + 2#8
      mar := s.pc + 1#8
      alu := s.a + s.x
      aluFlags := aluFlagResult .add s.a s.x
      lastBusValue := s.read (s.pc + 1#8)
      microCounter := 4
      activeWord := 0x00000450#32 }

/-- When the two bytes at the program counter decode to `i`, a step is the fetch, which moves PC past them and leaves them
in IR and OPD, and then `exec i` (40_cycle R136, R156, R157). -/
def Obligations.StepRunsDecodedInstruction : Prop :=
  ∀ (s : State) (i : Instr), s.AtRest → s.halted = false → s.microCounter = 0 →
    decode [s.read s.pc, s.read (s.pc + 1#8)] = .ok (i, []) →
    step s = exec i (afterFetch (s.read s.pc) (s.read (s.pc + 1#8)) s)

/-- A step is the instruction's cycles of the decode step and the execute step: four and the length of its micro-program,
at most eight (40_cycle R156, R158; 70_reset R354). -/
def Obligations.StepIsItsCycles : Prop :=
  ∀ s : State, s.AtRest → s.halted = false → s.microCounter = 0 →
    step s = cycles (4 + (rom (s.read s.pc) s.flg).length) s ∧ 4 + (rom (s.read s.pc) s.flg).length ≤ 8

/-- The meaning of an instruction, written word by word from its own rule, is the micro-program that the decode ROM,
written by families, gives for its opcode (40_cycle R154, R156). -/
def Obligations.ExecRunsRomProgram : Prop :=
  ∀ (i : Instr) (s : State),
    exec i s = runProgram i.opcode (rom i.opcode s.flg)
      (if usesOperand i.opcode = true then { s with opd := i.operand } else s)

/-! ### Encoding -/

/-- Decoding the encoding of any instruction gives it back, with what follows it left over, and so does the word of the
opcode table (30_encoding R100 to R102). -/
def Obligations.DecodeEncodeAgree : Prop :=
  ∀ (i : Instr) (rest : List Byte),
    decode (encode i ++ rest) = .ok (i, rest) ∧
      decodeTableWord 16 (i.opcode.toNat * 256 + i.operand.toNat) = some i

/-- Any two bytes decode, to an instruction with that opcode and, where its micro-program uses it, that operand byte
(30_encoding R100, R102, R112). -/
def Obligations.EveryPairDecodes : Prop :=
  ∀ (op n : Byte) (rest : List Byte),
    ∃ i, decode (op :: n :: rest) = .ok (i, rest) ∧ encode i = [op, if usesOperand op = true then n else 0#8]

/-- A few words, each written out from the spec's encodings (30_encoding R104 to R112). -/
def Obligations.DecodeSampleWords : Prop :=
  decode [0x10#8, 0x05#8] = .ok (.loadLitA 0x05#8, []) ∧ decode [0x21#8, 0xFF#8] = .ok (.storeB 0xFF#8, []) ∧
    decode [0x29#8, 0x00#8] = .ok (.swap, []) ∧ decode [0x42#8, 0x80#8] = .ok (.subMemN 0x80#8, []) ∧
    decode [0x74#8, 0x01#8] = .ok (.andMemX, []) ∧ decode [0x85#8, 0x00#8] = .ok (.dec, []) ∧
    decode [0x93#8, 0x40#8] = .ok (.outDatMem 0x40#8, []) ∧ decode [0xA3#8, 0x40#8] = .ok (.jmpz 0x40#8, []) ∧
    decode [0xA8#8, 0x00#8] = .ok (.ret, []) ∧ decode [0xB4#8, 0x00#8] = .ok (.stkrest, []) ∧
    decode [0x01#8, 0x00#8] = .ok (.halt, []) ∧ decode [0x80#8, 0x00#8] = .ok (.unassigned80, []) ∧
    decode [0x10#8] = .error (.truncated 1)

/-! ### Loads, stores, moves -/

/-- The four loads: into A or B, of the operand byte or of the cell it addresses (41_load R180 to R184). -/
def Obligations.LoadResult : Prop :=
  ∀ (n : Byte) (s : State), s.AtRest →
    exec (.loadLitA n) s = .next { leaves 0x10#8 [0x00001082#32] s with a := n, opd := n, lastBusValue := n } ∧
    exec (.loadLitB n) s = .next { leaves 0x11#8 [0x00004082#32] s with b := n, opd := n, lastBusValue := n } ∧
    exec (.loadMemA n) s = .next { leaves 0x12#8 [0x00000084#32, 0x00001012#32] s with
      a := s.read n, opd := n, mar := n, lastBusValue := s.read n } ∧
    exec (.loadMemB n) s = .next { leaves 0x13#8 [0x00000084#32, 0x00004012#32] s with
      b := s.read n, opd := n, mar := n, lastBusValue := s.read n }

/-- `store a -> $N` and `store b -> $N` (42_store_move R190, R191). -/
def Obligations.StoreResult : Prop :=
  ∀ (n : Byte) (s : State), s.AtRest →
    exec (.storeA n) s = .next { leaves 0x20#8 [0x00000084#32, 0x0000200A#32] (s.write n s.a) with
      opd := n, mar := n, lastBusValue := s.a } ∧
    exec (.storeB n) s = .next { leaves 0x21#8 [0x00000084#32, 0x0000800A#32] (s.write n s.b) with
      opd := n, mar := n, lastBusValue := s.b }

/-- The six moves and `swap`, which goes through X (42_store_move R192 to R198). -/
def Obligations.MoveAndSwapResult : Prop :=
  ∀ s : State, s.AtRest →
    exec .moveAB s = .next { leaves 0x23#8 [0x00006002#32] s with b := s.a, lastBusValue := s.a } ∧
    exec .moveAX s = .next { leaves 0x24#8 [0x00012002#32] s with x := s.a, lastBusValue := s.a } ∧
    exec .moveBA s = .next { leaves 0x25#8 [0x00009002#32] s with a := s.b, lastBusValue := s.b } ∧
    exec .moveBX s = .next { leaves 0x26#8 [0x00018002#32] s with x := s.b, lastBusValue := s.b } ∧
    exec .moveXA s = .next { leaves 0x27#8 [0x00021002#32] s with a := s.x, lastBusValue := s.x } ∧
    exec .moveXB s = .next { leaves 0x28#8 [0x00024002#32] s with b := s.x, lastBusValue := s.x } ∧
    exec .swap s = .next (leaves 0x29#8 [0x00012000#32, 0x00009000#32, 0x00024002#32]
      { s with a := s.b, b := s.a, x := s.a, lastBusValue := s.a })

/-! ### The ALU -/

/-- The ALU function: the eight results over the unsigned values of the operands, and the three flags (43_alu_binary R210).
That every operation but Add clears the carry and where the flags stand in the byte are the spec's decisions D5 to D7
(log 10). -/
def Obligations.AluFunction : Prop :=
  (∀ a x : Byte,
      (aluResult .add a x).toNat = (a.toNat + x.toNat) % 256 ∧
      (aluResult .sub a x).toNat = (a.toNat + 256 - x.toNat) % 256 ∧
      (aluResult .not a x).toNat = 255 - a.toNat ∧
      (aluResult .shiftLeft a x).toNat = 2 * a.toNat % 256 ∧
      (aluResult .shiftRight a x).toNat = a.toNat / 2 ∧
      ∀ k : Nat, (aluResult .or a x).getLsbD k = (a.getLsbD k || x.getLsbD k) ∧
        (aluResult .xor a x).getLsbD k = (a.getLsbD k ^^ x.getLsbD k) ∧
        (aluResult .and a x).getLsbD k = (a.getLsbD k && x.getLsbD k)) ∧
    ∀ (o : AluOp) (a x : Byte),
      (flagByte (aluFlagResult o a x)).toNat =
        (if aluResult o a x = 0#8 then 1 else 0) + (if o = .add ∧ 255 < a.toNat + x.toNat then 2 else 0)
          + 4 * ((aluResult o a x).toNat % 2)

/-- The document's properties of the ALU (43_alu_binary R237): the same inputs give the same outputs; an addition past 255
sets the carry and any other addition clears it; zero iff the result is 0. -/
def Obligations.AluDocumentProperties : Prop :=
  (∀ (o : AluOp) (a x a' x' : Byte), a = a' → x = x' →
      aluResult o a x = aluResult o a' x' ∧ aluFlagResult o a x = aluFlagResult o a' x') ∧
    (∀ a x : Byte, carryFlag (flagByte (aluFlagResult .add a x)) = true ↔ 255 < a.toNat + x.toNat) ∧
    ∀ (o : AluOp) (a x : Byte), zeroFlag (flagByte (aluFlagResult o a x)) = true ↔ aluResult o a x = 0#8

/-- The five operations with register B as the second operand; X ends as a copy of B (43_alu_binary R212, R217, R222, R227,
R232, R239). -/
def Obligations.AluFromRegisterB : Prop :=
  ∀ s : State, s.AtRest →
    exec .addB s = .next (computed 0x30#8 [0x00018000#32, 0x00801002#32] .add s.a s.b { s with x := s.b }) ∧
    exec .subB s = .next (computed 0x40#8 [0x00018000#32, 0x01801002#32] .sub s.a s.b { s with x := s.b }) ∧
    exec .orB s = .next (computed 0x50#8 [0x00018000#32, 0x02801002#32] .or s.a s.b { s with x := s.b }) ∧
    exec .xorB s = .next (computed 0x60#8 [0x00018000#32, 0x04801002#32] .xor s.a s.b { s with x := s.b }) ∧
    exec .andB s = .next (computed 0x70#8 [0x00018000#32, 0x08801002#32] .and s.a s.b { s with x := s.b })

/-- The five operations with X as the second operand; X is kept (43_alu_binary R213, R218, R223, R228, R233, R239). -/
def Obligations.AluFromRegisterX : Prop :=
  ∀ s : State, s.AtRest →
    exec .addX s = .next (computed 0x31#8 [0x00801002#32] .add s.a s.x s) ∧
    exec .subX s = .next (computed 0x41#8 [0x01801002#32] .sub s.a s.x s) ∧
    exec .orX s = .next (computed 0x51#8 [0x02801002#32] .or s.a s.x s) ∧
    exec .xorX s = .next (computed 0x61#8 [0x04801002#32] .xor s.a s.x s) ∧
    exec .andX s = .next (computed 0x71#8 [0x08801002#32] .and s.a s.x s)

/-- The five operations with the cell at the operand byte as the second operand (43_alu_binary R214, R219, R224, R229,
R234, R239). -/
def Obligations.AluFromMemoryN : Prop :=
  ∀ (n : Byte) (s : State), s.AtRest →
    exec (.addMemN n) s = .next (computed 0x32#8 [0x00000084#32, 0x00010010#32, 0x00801002#32] .add s.a (s.read n)
      { s with opd := n, mar := n, x := s.read n }) ∧
    exec (.subMemN n) s = .next (computed 0x42#8 [0x00000084#32, 0x00010010#32, 0x01801002#32] .sub s.a (s.read n)
      { s with opd := n, mar := n, x := s.read n }) ∧
    exec (.orMemN n) s = .next (computed 0x52#8 [0x00000084#32, 0x00010010#32, 0x02801002#32] .or s.a (s.read n)
      { s with opd := n, mar := n, x := s.read n }) ∧
    exec (.xorMemN n) s = .next (computed 0x62#8 [0x00000084#32, 0x00010010#32, 0x04801002#32] .xor s.a (s.read n)
      { s with opd := n, mar := n, x := s.read n }) ∧
    exec (.andMemN n) s = .next (computed 0x72#8 [0x00000084#32, 0x00010010#32, 0x08801002#32] .and s.a (s.read n)
      { s with opd := n, mar := n, x := s.read n })

/-- The five operations with the cell that B points to as the second operand (43_alu_binary R215, R220, R225, R230, R235,
R239). -/
def Obligations.AluFromMemoryAtB : Prop :=
  ∀ s : State, s.AtRest →
    exec .addMemB s = .next (computed 0x33#8 [0x00008004#32, 0x00010010#32, 0x00801002#32] .add s.a (s.read s.b)
      { s with mar := s.b, x := s.read s.b }) ∧
    exec .subMemB s = .next (computed 0x43#8 [0x00008004#32, 0x00010010#32, 0x01801002#32] .sub s.a (s.read s.b)
      { s with mar := s.b, x := s.read s.b }) ∧
    exec .orMemB s = .next (computed 0x53#8 [0x00008004#32, 0x00010010#32, 0x02801002#32] .or s.a (s.read s.b)
      { s with mar := s.b, x := s.read s.b }) ∧
    exec .xorMemB s = .next (computed 0x63#8 [0x00008004#32, 0x00010010#32, 0x04801002#32] .xor s.a (s.read s.b)
      { s with mar := s.b, x := s.read s.b }) ∧
    exec .andMemB s = .next (computed 0x73#8 [0x00008004#32, 0x00010010#32, 0x08801002#32] .and s.a (s.read s.b)
      { s with mar := s.b, x := s.read s.b })

/-- The five operations with the cell that X points to as the second operand; the pointer is overwritten by what it
pointed to (43_alu_binary R216, R221, R226, R231, R236, R239). -/
def Obligations.AluFromMemoryAtX : Prop :=
  ∀ s : State, s.AtRest →
    exec .addMemX s = .next (computed 0x34#8 [0x00020004#32, 0x00010010#32, 0x00801002#32] .add s.a (s.read s.x)
      { s with mar := s.x, x := s.read s.x }) ∧
    exec .subMemX s = .next (computed 0x44#8 [0x00020004#32, 0x00010010#32, 0x01801002#32] .sub s.a (s.read s.x)
      { s with mar := s.x, x := s.read s.x }) ∧
    exec .orMemX s = .next (computed 0x54#8 [0x00020004#32, 0x00010010#32, 0x02801002#32] .or s.a (s.read s.x)
      { s with mar := s.x, x := s.read s.x }) ∧
    exec .xorMemX s = .next (computed 0x64#8 [0x00020004#32, 0x00010010#32, 0x04801002#32] .xor s.a (s.read s.x)
      { s with mar := s.x, x := s.read s.x }) ∧
    exec .andMemX s = .next (computed 0x74#8 [0x00020004#32, 0x00010010#32, 0x08801002#32] .and s.a (s.read s.x)
      { s with mar := s.x, x := s.read s.x })

/-- `not`, `bitsl` and `bitsr`; X is kept (44_alu_unary R250 to R252). -/
def Obligations.NotAndShiftResult : Prop :=
  ∀ s : State, s.AtRest →
    exec .notA s = .next (computed 0x81#8 [0x10801002#32] .not s.a s.x s) ∧
    exec .bitsl s = .next (computed 0x82#8 [0x20801002#32] .shiftLeft s.a s.x s) ∧
    exec .bitsr s = .next (computed 0x83#8 [0x40801002#32] .shiftRight s.a s.x s)

/-- `inc` and `dec`: an addition and a subtraction of 1, which X ends as (44_alu_unary R253, R254). -/
def Obligations.IncDecResult : Prop :=
  ∀ s : State, s.AtRest →
    exec .inc s = .next (computed 0x84#8 [0x00841002#32] .add s.a 1#8 { s with x := 1#8 }) ∧
    exec .dec s = .next (computed 0x85#8 [0x01841002#32] .sub s.a 1#8 { s with x := 1#8 })

/-! ### Output -/

/-- The four output instructions append one event, with their own selector (45_output R261 to R264). -/
def Obligations.OutputResult : Prop :=
  ∀ (n : Byte) (s : State), s.AtRest →
    exec (.outCmd n) s = .next { leaves 0x90#8 [0x80000082#32] s with
      opd := n, lastBusValue := n, out := s.out ++ [(0, n)] } ∧
    exec (.outAddr n) s = .next { leaves 0x91#8 [0x80000082#32] s with
      opd := n, lastBusValue := n, out := s.out ++ [(1, n)] } ∧
    exec (.outDat n) s = .next { leaves 0x92#8 [0x80000082#32] s with
      opd := n, lastBusValue := n, out := s.out ++ [(2, n)] } ∧
    exec (.outDatMem n) s = .next { leaves 0x93#8 [0x00000084#32, 0x80000012#32] s with
      opd := n, mar := n, lastBusValue := s.read n, out := s.out ++ [(3, s.read n)] }

/-! ### Jumps, call, return, stack -/

/-- `jmp` and the six conditional jumps, taken and not taken (46_jump_call_return R271 to R278). -/
def Obligations.JumpResult : Prop :=
  ∀ (n : Byte) (s : State), s.AtRest →
    exec (.jmp n) s = .next { leaves 0xA0#8 [0x00000282#32] s with opd := n, pc := n, lastBusValue := n } ∧
    exec (.jmpc n) s = .next (jumped 0xA1#8 (s.flg.getLsbD 1) n s) ∧
    exec (.jmpnc n) s = .next (jumped 0xA2#8 (!s.flg.getLsbD 1) n s) ∧
    exec (.jmpz n) s = .next (jumped 0xA3#8 (s.flg.getLsbD 0) n s) ∧
    exec (.jmpnz n) s = .next (jumped 0xA4#8 (!s.flg.getLsbD 0) n s) ∧
    exec (.jmpp n) s = .next (jumped 0xA5#8 (s.flg.getLsbD 2) n s) ∧
    exec (.jmpnp n) s = .next (jumped 0xA6#8 (!s.flg.getLsbD 2) n s)

/-- `call`: the address after it goes to the cell at SP, SP goes down by one mod 256, PC is the target (46_jump_call_return
R279; 60_exceptions R316). -/
def Obligations.CallResult : Prop :=
  ∀ (n : Byte) (s : State), s.AtRest →
    exec (.call n) s = .next { leaves 0xA7#8 [0x00080004#32, 0x00200108#32, 0x00000282#32] (s.write s.sp s.pc) with
      opd := n, mar := s.sp, sp := s.sp - 1#8, pc := n, lastBusValue := n }

/-- `return`: SP goes up by one mod 256 and PC takes the cell there (46_jump_call_return R280). -/
def Obligations.ReturnResult : Prop :=
  ∀ s : State, s.AtRest →
    exec .ret s = .next { leaves 0xA8#8 [0x00180004#32, 0x00000212#32] s with
      mar := s.sp + 1#8, sp := s.sp + 1#8, pc := s.read (s.sp + 1#8), lastBusValue := s.read (s.sp + 1#8) }

/-- `push a` and `push b` (47_stack R290, R291, R295). -/
def Obligations.PushResult : Prop :=
  ∀ s : State, s.AtRest →
    exec .pushA s = .next { leaves 0xB0#8 [0x00080004#32, 0x0020200A#32] (s.write s.sp s.a) with
      mar := s.sp, sp := s.sp - 1#8, lastBusValue := s.a } ∧
    exec .pushB s = .next { leaves 0xB1#8 [0x00080004#32, 0x0020800A#32] (s.write s.sp s.b) with
      mar := s.sp, sp := s.sp - 1#8, lastBusValue := s.b }

/-- `pop a` and `pop b` (47_stack R292, R293, R295). -/
def Obligations.PopResult : Prop :=
  ∀ s : State, s.AtRest →
    exec .popA s = .next { leaves 0xB2#8 [0x00180004#32, 0x00001012#32] s with
      mar := s.sp + 1#8, sp := s.sp + 1#8, a := s.read (s.sp + 1#8), lastBusValue := s.read (s.sp + 1#8) } ∧
    exec .popB s = .next { leaves 0xB3#8 [0x00180004#32, 0x00004012#32] s with
      mar := s.sp + 1#8, sp := s.sp + 1#8, b := s.read (s.sp + 1#8), lastBusValue := s.read (s.sp + 1#8) }

/-- `stkrest` (47_stack R294). 0xFF is the spec's decision D14 (log 9); the bus copy is the free value (log 5). -/
def Obligations.StkrestResult : Prop :=
  ∀ s : State, s.AtRest →
    exec .stkrest s = .next { leaves 0xB4#8 [0x00400002#32] s with sp := 0xFF#8, lastBusValue := s.idleBusValue }

/-- A `call`, then a `return` in any later state with the same SP and the same byte in the stack slot: PC is the address
after the call, SP is as before (46_jump_call_return R279, R280). -/
def Obligations.CallThenReturn : Prop :=
  ∀ (n : Byte) (s : State), s.AtRest → s.mem.wf = true →
    ∃ t, exec (.call n) s = .next t ∧ t.pc = n ∧
      ∀ u : State, u.AtRest → u.sp = t.sp → u.read s.sp = t.read s.sp →
        ∃ v, exec .ret u = .next v ∧ v.pc = s.pc ∧ v.sp = s.sp

/-- A push, then a pop of the same register in any later state with the same SP and the same byte in the stack slot: the
register has its value again, SP is as before (47_stack R296). -/
def Obligations.PushThenPop : Prop :=
  ∀ s : State, s.AtRest → s.mem.wf = true →
    (∃ t, exec .pushA s = .next t ∧
        ∀ u : State, u.AtRest → u.sp = t.sp → u.read s.sp = t.read s.sp →
          ∃ v, exec .popA u = .next v ∧ v.a = s.a ∧ v.sp = s.sp) ∧
      ∃ t, exec .pushB s = .next t ∧
        ∀ u : State, u.AtRest → u.sp = t.sp → u.read s.sp = t.read s.sp →
          ∃ v, exec .popB u = .next v ∧ v.b = s.b ∧ v.sp = s.sp

/-- Any of the five storing instructions, then a load from the address stored to, or a fetch at it: the stored byte, with
nothing needed in between (20_memory R81, R84). -/
def Obligations.StoreThenLoadOrFetch : Prop :=
  ∀ (n : Byte) (s : State), s.AtRest → s.mem.wf = true →
    ∀ (i : Instr) (slot v : Byte),
      (i, slot, v) ∈ [(.storeA n, n, s.a), (.storeB n, n, s.b), (.call n, s.sp, s.pc), (.pushA, s.sp, s.a),
        (.pushB, s.sp, s.b)] →
      ∃ t, exec i s = .next t ∧
        ∀ u : State, u.AtRest → u.mem = t.mem →
          (∃ w, exec (.loadMemA slot) u = .next w ∧ w.a = v) ∧
            (∃ w, exec (.loadMemB slot) u = .next w ∧ w.b = v) ∧
            (u.microCounter = 0 → u.pc = slot → ∃ w, fetch u = .next w ∧ w.ir = v) ∧
            (u.microCounter = 0 → u.pc + 1#8 = slot → ∃ w, fetch u = .next w ∧ w.opd = v)

/-! ### No-op, halt, unassigned -/

/-- `noop` and the 193 unassigned opcodes do nothing but what every instruction does (48_misc R300, R303). For 0x22, 0x2A,
0x2B this is the spec's fallback (42_store_move R200; log 7); the bus copy is the free value (log 5). -/
def Obligations.NoopAndUnassignedResult : Prop :=
  ∀ (i : Instr) (s : State), i = .noop ∨ unassigned i.opcode = true → s.AtRest →
    exec i s = .next { leaves i.opcode [0x00000002#32] s with lastBusValue := s.idleBusValue }

/-- `halt` (48_misc R301): the ALU is not computed in the halting decode step. -/
def Obligations.HaltResult : Prop :=
  ∀ s : State, s.AtRest →
    exec .halt s = .next { finished 0x01#8 [0x00000003#32] s with halted := true, lastBusValue := s.idleBusValue }

/-! ### Frames -/

/-- The thirty ALU instructions write the flags and no other instruction does (10_state R34; 70_reset R348). -/
def Obligations.FlagsWrittenOnlyByAlu : Prop :=
  ∀ (i : Instr) (s t : State), s.AtRest → exec i s = .next t →
    (writesFlags i.opcode = false → t.flg = s.flg) ∧
      (writesFlags i.opcode = true → t.flg = flagByte t.aluFlags ∧ t.a = t.alu)

/-- Which registers an instruction may write after its fetch, which append to the output, which halts (10_state R45, R26,
R28; 70_reset R347). -/
def Obligations.RegistersWrittenOnlyWhereNamed : Prop :=
  ∀ (i : Instr) (s t : State), s.AtRest → exec i s = .next t →
    (writesA i.opcode = false → t.a = s.a) ∧ (writesB i.opcode = false → t.b = s.b) ∧
      (writesX i.opcode = false → t.x = s.x) ∧ (movesSp i.opcode = false → t.sp = s.sp) ∧
      (writesPc i.opcode = false → t.pc = s.pc) ∧ (writesMar i.opcode = false → t.mar = s.mar) ∧
      (emitsOutput i.opcode = false → t.out = s.out) ∧ (i ≠ .halt → t.halted = s.halted) ∧
      t.ir = i.opcode ∧ t.opd = (if usesOperand i.opcode = true then i.operand else s.opd) ∧
      t.idleBusValue = s.idleBusValue ∧ t.microCounter = 0

/-- An instruction that does not store leaves every byte of memory as it was (20_memory R73, R78). -/
def Obligations.NonStoringInstructionsKeepMemory : Prop :=
  ∀ (i : Instr) (s t : State), s.AtRest → storesByte i.opcode = false → exec i s = .next t → KeepsMemory s t

/-- A storing instruction writes the one byte at its operand, or at SP as it was, and leaves every other byte of memory
as it was (20_memory R72, R73; 42_store_move R190, R191; 46_jump_call_return R279; 47_stack R290, R291). -/
def Obligations.StoringInstructionsWriteOneByte : Prop :=
  ∀ (n : Byte) (s : State), s.AtRest → s.mem.wf = true →
    (∃ t, exec (.storeA n) s = .next t ∧ t.read n = s.a ∧ KeepsMemoryBut n s t) ∧
      (∃ t, exec (.storeB n) s = .next t ∧ t.read n = s.b ∧ KeepsMemoryBut n s t) ∧
      (∃ t, exec (.call n) s = .next t ∧ t.read s.sp = s.pc ∧ KeepsMemoryBut s.sp s t) ∧
      (∃ t, exec .pushA s = .next t ∧ t.read s.sp = s.a ∧ KeepsMemoryBut s.sp s t) ∧
      ∃ t, exec .pushB s = .next t ∧ t.read s.sp = s.b ∧ KeepsMemoryBut s.sp s t

/-! ### The host -/

/-- Reset, between cycles, inside an instruction, of a halted machine or after an error, restores every piece of the
machine's state (70_reset R340; 60_exceptions R318). The output trace and the free value are no state of the machine
and are kept: the model's choice (log 5, log 6). -/
def Obligations.HostResetRestoresState : Prop :=
  ∀ (s : State) (p : Phase), p ≠ .marked →
    hostMove .reset ⟨s, p⟩ =
      .ok ⟨{ State.reset with out := s.out, idleBusValue := s.idleBusValue }, .between⟩ .done

/-- `loadImage` (60_exceptions R315): 256 bytes replace all cells (20_memory R88), which leaves the memory in the model's
canonical form (log 19); any other number is `SizeMismatch`, which records the number (log 28), with nothing changed; no
step of the machine raises it. -/
def Obligations.LoadImageReplacesMemoryOrFails : Prop :=
  (∀ (bytes : List Byte) (s : State), bytes.length = 256 →
      ∃ t, hostMove (.loadImage bytes) ⟨s, .between⟩ = .ok ⟨t, .between⟩ .done ∧
        (∀ addr : Byte, bytes[addr.toNat]? = some (t.read addr)) ∧ t.mem.wf = true ∧ { t with mem := s.mem } = s) ∧
    (∀ (bytes : List Byte) (s : State), bytes.length ≠ 256 →
      hostMove (.loadImage bytes) ⟨s, .between⟩ = .ok ⟨s, .between⟩ (.error (.sizeMismatch bytes.length))) ∧
    ∀ (s : State) (k : Nat), cycle s ≠ .fault (.sizeMismatch k) ∧ step s ≠ .fault (.sizeMismatch k)

/-- The protocol of the two calls: decode and execute alternate, decode first, host writes come between cycles
(40_cycle R160; 60_exceptions R327); reads show what there is and change nothing, between cycles, between the two calls
(R327, R330) and after an error (R318), where the values are the residue and the queries beyond registers and memory are
the model's choice (log 12); a machine that failed takes no other move but reset; the two calls are one cycle. -/
def Obligations.HostProtocol : Prop :=
  (∀ s : State, hostMove .executeStep ⟨s, .between⟩ = .refused .outOfProtocol ∧
      hostMove .decodeStep ⟨s, .marked⟩ = .refused .outOfProtocol ∧
      hostMove .reset ⟨s, .marked⟩ = .refused .outOfProtocol ∧
      ∀ bytes, hostMove (.loadImage bytes) ⟨s, .marked⟩ = .refused .outOfProtocol) ∧
    (∀ (s : State) (e : Fault), hostMove .decodeStep ⟨s, .dead e⟩ = .refused .outOfProtocol ∧
      hostMove .executeStep ⟨s, .dead e⟩ = .refused .outOfProtocol ∧
      (∀ bytes, hostMove (.loadImage bytes) ⟨s, .dead e⟩ = .refused .outOfProtocol) ∧
      ∀ c, hostMove (.markTransmit c) ⟨s, .dead e⟩ = .refused .outOfProtocol ∧
        hostMove (.markReceive c) ⟨s, .dead e⟩ = .refused .outOfProtocol) ∧
    (∀ (s : State) (p : Phase),
      (∀ r, hostMove (.readRegister r) ⟨s, p⟩ = .ok ⟨s, p⟩ (.byte (getReg s r))) ∧
        hostMove .queryHalted ⟨s, p⟩ = .ok ⟨s, p⟩ (.flag s.halted) ∧
        hostMove .queryLastBus ⟨s, p⟩ = .ok ⟨s, p⟩ (.byte s.lastBusValue) ∧
        (∃ marks, hostMove .queryActive ⟨s, p⟩ = .ok ⟨s, p⟩ (.components marks) ∧ (marks.map Prod.fst).Nodup ∧
          ∀ (c : Component) (way : PendingAction),
            (c, way) ∈ marks ↔ way ≠ .none ∧ pendingOf s.pending c = way) ∧
        ∃ bytes, hostMove .readMemory ⟨s, p⟩ = .ok ⟨s, p⟩ (.image bytes) ∧ bytes.length = 256 ∧
          ∀ addr : Byte, bytes[addr.toNat]? = some (s.read addr)) ∧
    (∀ s u t : State, hostMove .decodeStep ⟨s, .between⟩ = .ok ⟨u, .marked⟩ .done →
      hostMove .executeStep ⟨u, .marked⟩ = .ok ⟨t, .between⟩ .done → cycle s = .next t) ∧
    ∀ (s u : State) (e : Fault), hostMove .decodeStep ⟨s, .between⟩ = .ok ⟨u, .marked⟩ .done →
      executeStep u = .fault e →
        cycle s = .fault e ∧ ∃ t, hostMove .executeStep ⟨u, .marked⟩ = .ok ⟨t, .dead e⟩ (.error e)

/-- The switch of 93 U3 and U4: with everything admitted a step is the machine's step; a reader who does not admit an
opcode gets a refusal that names it (log 7, log 8). -/
def Obligations.AdmissionSwitch : Prop :=
  (∀ s : State, stepUnder .everything s = step s) ∧
    ∀ (mode : Admission) (s : State), s.AtRest → s.halted = false → s.microCounter = 0 →
      stepUnder mode s = if admits mode (s.read s.pc) = true then step s else .refused (.notAdmitted (s.read s.pc))
end

