-- ==== Sys2Proof/Laws/State.lean ====
section
/-! SUPPORT. The record lemmas of State: one per field per update, so that no proof unfolds an update. -/

namespace Sys2Proof.Machine

/-! ### setReg .a -/

@[simp] theorem setReg_a_a (s : State) (v : Byte) : (setReg s .a v).a = v := rfl
@[simp] theorem setReg_a_b (s : State) (v : Byte) : (setReg s .a v).b = s.b := rfl
@[simp] theorem setReg_a_x (s : State) (v : Byte) : (setReg s .a v).x = s.x := rfl
@[simp] theorem setReg_a_pc (s : State) (v : Byte) : (setReg s .a v).pc = s.pc := rfl
@[simp] theorem setReg_a_sp (s : State) (v : Byte) : (setReg s .a v).sp = s.sp := rfl
@[simp] theorem setReg_a_ir (s : State) (v : Byte) : (setReg s .a v).ir = s.ir := rfl
@[simp] theorem setReg_a_opd (s : State) (v : Byte) : (setReg s .a v).opd = s.opd := rfl
@[simp] theorem setReg_a_mar (s : State) (v : Byte) : (setReg s .a v).mar = s.mar := rfl
@[simp] theorem setReg_a_alu (s : State) (v : Byte) : (setReg s .a v).alu = s.alu := rfl
@[simp] theorem setReg_a_flg (s : State) (v : Byte) : (setReg s .a v).flg = s.flg := rfl
@[simp] theorem setReg_a_mem (s : State) (v : Byte) : (setReg s .a v).mem = s.mem := rfl
@[simp] theorem setReg_a_busValue (s : State) (v : Byte) : (setReg s .a v).busValue = s.busValue := rfl
@[simp] theorem setReg_a_busHasValue (s : State) (v : Byte) : (setReg s .a v).busHasValue = s.busHasValue := rfl
@[simp] theorem setReg_a_pending (s : State) (v : Byte) : (setReg s .a v).pending = s.pending := rfl
@[simp] theorem setReg_a_txList (s : State) (v : Byte) : (setReg s .a v).txList = s.txList := rfl
@[simp] theorem setReg_a_rxList (s : State) (v : Byte) : (setReg s .a v).rxList = s.rxList := rfl
@[simp] theorem setReg_a_microCounter (s : State) (v : Byte) : (setReg s .a v).microCounter = s.microCounter := rfl
@[simp] theorem setReg_a_halted (s : State) (v : Byte) : (setReg s .a v).halted = s.halted := rfl
@[simp] theorem setReg_a_activeWord (s : State) (v : Byte) : (setReg s .a v).activeWord = s.activeWord := rfl
@[simp] theorem setReg_a_microProgram (s : State) (v : Byte) : (setReg s .a v).microProgram = s.microProgram := rfl
@[simp] theorem setReg_a_aluOp (s : State) (v : Byte) : (setReg s .a v).aluOp = s.aluOp := rfl
@[simp] theorem setReg_a_aluFlags (s : State) (v : Byte) : (setReg s .a v).aluFlags = s.aluFlags := rfl
@[simp] theorem setReg_a_flagLatch (s : State) (v : Byte) : (setReg s .a v).flagLatch = s.flagLatch := rfl
@[simp] theorem setReg_a_lastBusValue (s : State) (v : Byte) : (setReg s .a v).lastBusValue = s.lastBusValue := rfl
@[simp] theorem setReg_a_out (s : State) (v : Byte) : (setReg s .a v).out = s.out := rfl
@[simp] theorem setReg_a_idleBusValue (s : State) (v : Byte) : (setReg s .a v).idleBusValue = s.idleBusValue := rfl

/-! ### setReg .b -/

@[simp] theorem setReg_b_a (s : State) (v : Byte) : (setReg s .b v).a = s.a := rfl
@[simp] theorem setReg_b_b (s : State) (v : Byte) : (setReg s .b v).b = v := rfl
@[simp] theorem setReg_b_x (s : State) (v : Byte) : (setReg s .b v).x = s.x := rfl
@[simp] theorem setReg_b_pc (s : State) (v : Byte) : (setReg s .b v).pc = s.pc := rfl
@[simp] theorem setReg_b_sp (s : State) (v : Byte) : (setReg s .b v).sp = s.sp := rfl
@[simp] theorem setReg_b_ir (s : State) (v : Byte) : (setReg s .b v).ir = s.ir := rfl
@[simp] theorem setReg_b_opd (s : State) (v : Byte) : (setReg s .b v).opd = s.opd := rfl
@[simp] theorem setReg_b_mar (s : State) (v : Byte) : (setReg s .b v).mar = s.mar := rfl
@[simp] theorem setReg_b_alu (s : State) (v : Byte) : (setReg s .b v).alu = s.alu := rfl
@[simp] theorem setReg_b_flg (s : State) (v : Byte) : (setReg s .b v).flg = s.flg := rfl
@[simp] theorem setReg_b_mem (s : State) (v : Byte) : (setReg s .b v).mem = s.mem := rfl
@[simp] theorem setReg_b_busValue (s : State) (v : Byte) : (setReg s .b v).busValue = s.busValue := rfl
@[simp] theorem setReg_b_busHasValue (s : State) (v : Byte) : (setReg s .b v).busHasValue = s.busHasValue := rfl
@[simp] theorem setReg_b_pending (s : State) (v : Byte) : (setReg s .b v).pending = s.pending := rfl
@[simp] theorem setReg_b_txList (s : State) (v : Byte) : (setReg s .b v).txList = s.txList := rfl
@[simp] theorem setReg_b_rxList (s : State) (v : Byte) : (setReg s .b v).rxList = s.rxList := rfl
@[simp] theorem setReg_b_microCounter (s : State) (v : Byte) : (setReg s .b v).microCounter = s.microCounter := rfl
@[simp] theorem setReg_b_halted (s : State) (v : Byte) : (setReg s .b v).halted = s.halted := rfl
@[simp] theorem setReg_b_activeWord (s : State) (v : Byte) : (setReg s .b v).activeWord = s.activeWord := rfl
@[simp] theorem setReg_b_microProgram (s : State) (v : Byte) : (setReg s .b v).microProgram = s.microProgram := rfl
@[simp] theorem setReg_b_aluOp (s : State) (v : Byte) : (setReg s .b v).aluOp = s.aluOp := rfl
@[simp] theorem setReg_b_aluFlags (s : State) (v : Byte) : (setReg s .b v).aluFlags = s.aluFlags := rfl
@[simp] theorem setReg_b_flagLatch (s : State) (v : Byte) : (setReg s .b v).flagLatch = s.flagLatch := rfl
@[simp] theorem setReg_b_lastBusValue (s : State) (v : Byte) : (setReg s .b v).lastBusValue = s.lastBusValue := rfl
@[simp] theorem setReg_b_out (s : State) (v : Byte) : (setReg s .b v).out = s.out := rfl
@[simp] theorem setReg_b_idleBusValue (s : State) (v : Byte) : (setReg s .b v).idleBusValue = s.idleBusValue := rfl

/-! ### setReg .x -/

@[simp] theorem setReg_x_a (s : State) (v : Byte) : (setReg s .x v).a = s.a := rfl
@[simp] theorem setReg_x_b (s : State) (v : Byte) : (setReg s .x v).b = s.b := rfl
@[simp] theorem setReg_x_x (s : State) (v : Byte) : (setReg s .x v).x = v := rfl
@[simp] theorem setReg_x_pc (s : State) (v : Byte) : (setReg s .x v).pc = s.pc := rfl
@[simp] theorem setReg_x_sp (s : State) (v : Byte) : (setReg s .x v).sp = s.sp := rfl
@[simp] theorem setReg_x_ir (s : State) (v : Byte) : (setReg s .x v).ir = s.ir := rfl
@[simp] theorem setReg_x_opd (s : State) (v : Byte) : (setReg s .x v).opd = s.opd := rfl
@[simp] theorem setReg_x_mar (s : State) (v : Byte) : (setReg s .x v).mar = s.mar := rfl
@[simp] theorem setReg_x_alu (s : State) (v : Byte) : (setReg s .x v).alu = s.alu := rfl
@[simp] theorem setReg_x_flg (s : State) (v : Byte) : (setReg s .x v).flg = s.flg := rfl
@[simp] theorem setReg_x_mem (s : State) (v : Byte) : (setReg s .x v).mem = s.mem := rfl
@[simp] theorem setReg_x_busValue (s : State) (v : Byte) : (setReg s .x v).busValue = s.busValue := rfl
@[simp] theorem setReg_x_busHasValue (s : State) (v : Byte) : (setReg s .x v).busHasValue = s.busHasValue := rfl
@[simp] theorem setReg_x_pending (s : State) (v : Byte) : (setReg s .x v).pending = s.pending := rfl
@[simp] theorem setReg_x_txList (s : State) (v : Byte) : (setReg s .x v).txList = s.txList := rfl
@[simp] theorem setReg_x_rxList (s : State) (v : Byte) : (setReg s .x v).rxList = s.rxList := rfl
@[simp] theorem setReg_x_microCounter (s : State) (v : Byte) : (setReg s .x v).microCounter = s.microCounter := rfl
@[simp] theorem setReg_x_halted (s : State) (v : Byte) : (setReg s .x v).halted = s.halted := rfl
@[simp] theorem setReg_x_activeWord (s : State) (v : Byte) : (setReg s .x v).activeWord = s.activeWord := rfl
@[simp] theorem setReg_x_microProgram (s : State) (v : Byte) : (setReg s .x v).microProgram = s.microProgram := rfl
@[simp] theorem setReg_x_aluOp (s : State) (v : Byte) : (setReg s .x v).aluOp = s.aluOp := rfl
@[simp] theorem setReg_x_aluFlags (s : State) (v : Byte) : (setReg s .x v).aluFlags = s.aluFlags := rfl
@[simp] theorem setReg_x_flagLatch (s : State) (v : Byte) : (setReg s .x v).flagLatch = s.flagLatch := rfl
@[simp] theorem setReg_x_lastBusValue (s : State) (v : Byte) : (setReg s .x v).lastBusValue = s.lastBusValue := rfl
@[simp] theorem setReg_x_out (s : State) (v : Byte) : (setReg s .x v).out = s.out := rfl
@[simp] theorem setReg_x_idleBusValue (s : State) (v : Byte) : (setReg s .x v).idleBusValue = s.idleBusValue := rfl

/-! ### setReg .pc -/

@[simp] theorem setReg_pc_a (s : State) (v : Byte) : (setReg s .pc v).a = s.a := rfl
@[simp] theorem setReg_pc_b (s : State) (v : Byte) : (setReg s .pc v).b = s.b := rfl
@[simp] theorem setReg_pc_x (s : State) (v : Byte) : (setReg s .pc v).x = s.x := rfl
@[simp] theorem setReg_pc_pc (s : State) (v : Byte) : (setReg s .pc v).pc = v := rfl
@[simp] theorem setReg_pc_sp (s : State) (v : Byte) : (setReg s .pc v).sp = s.sp := rfl
@[simp] theorem setReg_pc_ir (s : State) (v : Byte) : (setReg s .pc v).ir = s.ir := rfl
@[simp] theorem setReg_pc_opd (s : State) (v : Byte) : (setReg s .pc v).opd = s.opd := rfl
@[simp] theorem setReg_pc_mar (s : State) (v : Byte) : (setReg s .pc v).mar = s.mar := rfl
@[simp] theorem setReg_pc_alu (s : State) (v : Byte) : (setReg s .pc v).alu = s.alu := rfl
@[simp] theorem setReg_pc_flg (s : State) (v : Byte) : (setReg s .pc v).flg = s.flg := rfl
@[simp] theorem setReg_pc_mem (s : State) (v : Byte) : (setReg s .pc v).mem = s.mem := rfl
@[simp] theorem setReg_pc_busValue (s : State) (v : Byte) : (setReg s .pc v).busValue = s.busValue := rfl
@[simp] theorem setReg_pc_busHasValue (s : State) (v : Byte) : (setReg s .pc v).busHasValue = s.busHasValue := rfl
@[simp] theorem setReg_pc_pending (s : State) (v : Byte) : (setReg s .pc v).pending = s.pending := rfl
@[simp] theorem setReg_pc_txList (s : State) (v : Byte) : (setReg s .pc v).txList = s.txList := rfl
@[simp] theorem setReg_pc_rxList (s : State) (v : Byte) : (setReg s .pc v).rxList = s.rxList := rfl
@[simp] theorem setReg_pc_microCounter (s : State) (v : Byte) : (setReg s .pc v).microCounter = s.microCounter := rfl
@[simp] theorem setReg_pc_halted (s : State) (v : Byte) : (setReg s .pc v).halted = s.halted := rfl
@[simp] theorem setReg_pc_activeWord (s : State) (v : Byte) : (setReg s .pc v).activeWord = s.activeWord := rfl
@[simp] theorem setReg_pc_microProgram (s : State) (v : Byte) : (setReg s .pc v).microProgram = s.microProgram := rfl
@[simp] theorem setReg_pc_aluOp (s : State) (v : Byte) : (setReg s .pc v).aluOp = s.aluOp := rfl
@[simp] theorem setReg_pc_aluFlags (s : State) (v : Byte) : (setReg s .pc v).aluFlags = s.aluFlags := rfl
@[simp] theorem setReg_pc_flagLatch (s : State) (v : Byte) : (setReg s .pc v).flagLatch = s.flagLatch := rfl
@[simp] theorem setReg_pc_lastBusValue (s : State) (v : Byte) : (setReg s .pc v).lastBusValue = s.lastBusValue := rfl
@[simp] theorem setReg_pc_out (s : State) (v : Byte) : (setReg s .pc v).out = s.out := rfl
@[simp] theorem setReg_pc_idleBusValue (s : State) (v : Byte) : (setReg s .pc v).idleBusValue = s.idleBusValue := rfl

/-! ### setReg .sp -/

@[simp] theorem setReg_sp_a (s : State) (v : Byte) : (setReg s .sp v).a = s.a := rfl
@[simp] theorem setReg_sp_b (s : State) (v : Byte) : (setReg s .sp v).b = s.b := rfl
@[simp] theorem setReg_sp_x (s : State) (v : Byte) : (setReg s .sp v).x = s.x := rfl
@[simp] theorem setReg_sp_pc (s : State) (v : Byte) : (setReg s .sp v).pc = s.pc := rfl
@[simp] theorem setReg_sp_sp (s : State) (v : Byte) : (setReg s .sp v).sp = v := rfl
@[simp] theorem setReg_sp_ir (s : State) (v : Byte) : (setReg s .sp v).ir = s.ir := rfl
@[simp] theorem setReg_sp_opd (s : State) (v : Byte) : (setReg s .sp v).opd = s.opd := rfl
@[simp] theorem setReg_sp_mar (s : State) (v : Byte) : (setReg s .sp v).mar = s.mar := rfl
@[simp] theorem setReg_sp_alu (s : State) (v : Byte) : (setReg s .sp v).alu = s.alu := rfl
@[simp] theorem setReg_sp_flg (s : State) (v : Byte) : (setReg s .sp v).flg = s.flg := rfl
@[simp] theorem setReg_sp_mem (s : State) (v : Byte) : (setReg s .sp v).mem = s.mem := rfl
@[simp] theorem setReg_sp_busValue (s : State) (v : Byte) : (setReg s .sp v).busValue = s.busValue := rfl
@[simp] theorem setReg_sp_busHasValue (s : State) (v : Byte) : (setReg s .sp v).busHasValue = s.busHasValue := rfl
@[simp] theorem setReg_sp_pending (s : State) (v : Byte) : (setReg s .sp v).pending = s.pending := rfl
@[simp] theorem setReg_sp_txList (s : State) (v : Byte) : (setReg s .sp v).txList = s.txList := rfl
@[simp] theorem setReg_sp_rxList (s : State) (v : Byte) : (setReg s .sp v).rxList = s.rxList := rfl
@[simp] theorem setReg_sp_microCounter (s : State) (v : Byte) : (setReg s .sp v).microCounter = s.microCounter := rfl
@[simp] theorem setReg_sp_halted (s : State) (v : Byte) : (setReg s .sp v).halted = s.halted := rfl
@[simp] theorem setReg_sp_activeWord (s : State) (v : Byte) : (setReg s .sp v).activeWord = s.activeWord := rfl
@[simp] theorem setReg_sp_microProgram (s : State) (v : Byte) : (setReg s .sp v).microProgram = s.microProgram := rfl
@[simp] theorem setReg_sp_aluOp (s : State) (v : Byte) : (setReg s .sp v).aluOp = s.aluOp := rfl
@[simp] theorem setReg_sp_aluFlags (s : State) (v : Byte) : (setReg s .sp v).aluFlags = s.aluFlags := rfl
@[simp] theorem setReg_sp_flagLatch (s : State) (v : Byte) : (setReg s .sp v).flagLatch = s.flagLatch := rfl
@[simp] theorem setReg_sp_lastBusValue (s : State) (v : Byte) : (setReg s .sp v).lastBusValue = s.lastBusValue := rfl
@[simp] theorem setReg_sp_out (s : State) (v : Byte) : (setReg s .sp v).out = s.out := rfl
@[simp] theorem setReg_sp_idleBusValue (s : State) (v : Byte) : (setReg s .sp v).idleBusValue = s.idleBusValue := rfl

/-! ### setReg .ir -/

@[simp] theorem setReg_ir_a (s : State) (v : Byte) : (setReg s .ir v).a = s.a := rfl
@[simp] theorem setReg_ir_b (s : State) (v : Byte) : (setReg s .ir v).b = s.b := rfl
@[simp] theorem setReg_ir_x (s : State) (v : Byte) : (setReg s .ir v).x = s.x := rfl
@[simp] theorem setReg_ir_pc (s : State) (v : Byte) : (setReg s .ir v).pc = s.pc := rfl
@[simp] theorem setReg_ir_sp (s : State) (v : Byte) : (setReg s .ir v).sp = s.sp := rfl
@[simp] theorem setReg_ir_ir (s : State) (v : Byte) : (setReg s .ir v).ir = v := rfl
@[simp] theorem setReg_ir_opd (s : State) (v : Byte) : (setReg s .ir v).opd = s.opd := rfl
@[simp] theorem setReg_ir_mar (s : State) (v : Byte) : (setReg s .ir v).mar = s.mar := rfl
@[simp] theorem setReg_ir_alu (s : State) (v : Byte) : (setReg s .ir v).alu = s.alu := rfl
@[simp] theorem setReg_ir_flg (s : State) (v : Byte) : (setReg s .ir v).flg = s.flg := rfl
@[simp] theorem setReg_ir_mem (s : State) (v : Byte) : (setReg s .ir v).mem = s.mem := rfl
@[simp] theorem setReg_ir_busValue (s : State) (v : Byte) : (setReg s .ir v).busValue = s.busValue := rfl
@[simp] theorem setReg_ir_busHasValue (s : State) (v : Byte) : (setReg s .ir v).busHasValue = s.busHasValue := rfl
@[simp] theorem setReg_ir_pending (s : State) (v : Byte) : (setReg s .ir v).pending = s.pending := rfl
@[simp] theorem setReg_ir_txList (s : State) (v : Byte) : (setReg s .ir v).txList = s.txList := rfl
@[simp] theorem setReg_ir_rxList (s : State) (v : Byte) : (setReg s .ir v).rxList = s.rxList := rfl
@[simp] theorem setReg_ir_microCounter (s : State) (v : Byte) : (setReg s .ir v).microCounter = s.microCounter := rfl
@[simp] theorem setReg_ir_halted (s : State) (v : Byte) : (setReg s .ir v).halted = s.halted := rfl
@[simp] theorem setReg_ir_activeWord (s : State) (v : Byte) : (setReg s .ir v).activeWord = s.activeWord := rfl
@[simp] theorem setReg_ir_microProgram (s : State) (v : Byte) : (setReg s .ir v).microProgram = s.microProgram := rfl
@[simp] theorem setReg_ir_aluOp (s : State) (v : Byte) : (setReg s .ir v).aluOp = s.aluOp := rfl
@[simp] theorem setReg_ir_aluFlags (s : State) (v : Byte) : (setReg s .ir v).aluFlags = s.aluFlags := rfl
@[simp] theorem setReg_ir_flagLatch (s : State) (v : Byte) : (setReg s .ir v).flagLatch = s.flagLatch := rfl
@[simp] theorem setReg_ir_lastBusValue (s : State) (v : Byte) : (setReg s .ir v).lastBusValue = s.lastBusValue := rfl
@[simp] theorem setReg_ir_out (s : State) (v : Byte) : (setReg s .ir v).out = s.out := rfl
@[simp] theorem setReg_ir_idleBusValue (s : State) (v : Byte) : (setReg s .ir v).idleBusValue = s.idleBusValue := rfl

/-! ### setReg .opd -/

@[simp] theorem setReg_opd_a (s : State) (v : Byte) : (setReg s .opd v).a = s.a := rfl
@[simp] theorem setReg_opd_b (s : State) (v : Byte) : (setReg s .opd v).b = s.b := rfl
@[simp] theorem setReg_opd_x (s : State) (v : Byte) : (setReg s .opd v).x = s.x := rfl
@[simp] theorem setReg_opd_pc (s : State) (v : Byte) : (setReg s .opd v).pc = s.pc := rfl
@[simp] theorem setReg_opd_sp (s : State) (v : Byte) : (setReg s .opd v).sp = s.sp := rfl
@[simp] theorem setReg_opd_ir (s : State) (v : Byte) : (setReg s .opd v).ir = s.ir := rfl
@[simp] theorem setReg_opd_opd (s : State) (v : Byte) : (setReg s .opd v).opd = v := rfl
@[simp] theorem setReg_opd_mar (s : State) (v : Byte) : (setReg s .opd v).mar = s.mar := rfl
@[simp] theorem setReg_opd_alu (s : State) (v : Byte) : (setReg s .opd v).alu = s.alu := rfl
@[simp] theorem setReg_opd_flg (s : State) (v : Byte) : (setReg s .opd v).flg = s.flg := rfl
@[simp] theorem setReg_opd_mem (s : State) (v : Byte) : (setReg s .opd v).mem = s.mem := rfl
@[simp] theorem setReg_opd_busValue (s : State) (v : Byte) : (setReg s .opd v).busValue = s.busValue := rfl
@[simp] theorem setReg_opd_busHasValue (s : State) (v : Byte) : (setReg s .opd v).busHasValue = s.busHasValue := rfl
@[simp] theorem setReg_opd_pending (s : State) (v : Byte) : (setReg s .opd v).pending = s.pending := rfl
@[simp] theorem setReg_opd_txList (s : State) (v : Byte) : (setReg s .opd v).txList = s.txList := rfl
@[simp] theorem setReg_opd_rxList (s : State) (v : Byte) : (setReg s .opd v).rxList = s.rxList := rfl
@[simp] theorem setReg_opd_microCounter (s : State) (v : Byte) : (setReg s .opd v).microCounter = s.microCounter := rfl
@[simp] theorem setReg_opd_halted (s : State) (v : Byte) : (setReg s .opd v).halted = s.halted := rfl
@[simp] theorem setReg_opd_activeWord (s : State) (v : Byte) : (setReg s .opd v).activeWord = s.activeWord := rfl
@[simp] theorem setReg_opd_microProgram (s : State) (v : Byte) : (setReg s .opd v).microProgram = s.microProgram := rfl
@[simp] theorem setReg_opd_aluOp (s : State) (v : Byte) : (setReg s .opd v).aluOp = s.aluOp := rfl
@[simp] theorem setReg_opd_aluFlags (s : State) (v : Byte) : (setReg s .opd v).aluFlags = s.aluFlags := rfl
@[simp] theorem setReg_opd_flagLatch (s : State) (v : Byte) : (setReg s .opd v).flagLatch = s.flagLatch := rfl
@[simp] theorem setReg_opd_lastBusValue (s : State) (v : Byte) : (setReg s .opd v).lastBusValue = s.lastBusValue := rfl
@[simp] theorem setReg_opd_out (s : State) (v : Byte) : (setReg s .opd v).out = s.out := rfl
@[simp] theorem setReg_opd_idleBusValue (s : State) (v : Byte) : (setReg s .opd v).idleBusValue = s.idleBusValue := rfl

/-! ### setReg .mar -/

@[simp] theorem setReg_mar_a (s : State) (v : Byte) : (setReg s .mar v).a = s.a := rfl
@[simp] theorem setReg_mar_b (s : State) (v : Byte) : (setReg s .mar v).b = s.b := rfl
@[simp] theorem setReg_mar_x (s : State) (v : Byte) : (setReg s .mar v).x = s.x := rfl
@[simp] theorem setReg_mar_pc (s : State) (v : Byte) : (setReg s .mar v).pc = s.pc := rfl
@[simp] theorem setReg_mar_sp (s : State) (v : Byte) : (setReg s .mar v).sp = s.sp := rfl
@[simp] theorem setReg_mar_ir (s : State) (v : Byte) : (setReg s .mar v).ir = s.ir := rfl
@[simp] theorem setReg_mar_opd (s : State) (v : Byte) : (setReg s .mar v).opd = s.opd := rfl
@[simp] theorem setReg_mar_mar (s : State) (v : Byte) : (setReg s .mar v).mar = v := rfl
@[simp] theorem setReg_mar_alu (s : State) (v : Byte) : (setReg s .mar v).alu = s.alu := rfl
@[simp] theorem setReg_mar_flg (s : State) (v : Byte) : (setReg s .mar v).flg = s.flg := rfl
@[simp] theorem setReg_mar_mem (s : State) (v : Byte) : (setReg s .mar v).mem = s.mem := rfl
@[simp] theorem setReg_mar_busValue (s : State) (v : Byte) : (setReg s .mar v).busValue = s.busValue := rfl
@[simp] theorem setReg_mar_busHasValue (s : State) (v : Byte) : (setReg s .mar v).busHasValue = s.busHasValue := rfl
@[simp] theorem setReg_mar_pending (s : State) (v : Byte) : (setReg s .mar v).pending = s.pending := rfl
@[simp] theorem setReg_mar_txList (s : State) (v : Byte) : (setReg s .mar v).txList = s.txList := rfl
@[simp] theorem setReg_mar_rxList (s : State) (v : Byte) : (setReg s .mar v).rxList = s.rxList := rfl
@[simp] theorem setReg_mar_microCounter (s : State) (v : Byte) : (setReg s .mar v).microCounter = s.microCounter := rfl
@[simp] theorem setReg_mar_halted (s : State) (v : Byte) : (setReg s .mar v).halted = s.halted := rfl
@[simp] theorem setReg_mar_activeWord (s : State) (v : Byte) : (setReg s .mar v).activeWord = s.activeWord := rfl
@[simp] theorem setReg_mar_microProgram (s : State) (v : Byte) : (setReg s .mar v).microProgram = s.microProgram := rfl
@[simp] theorem setReg_mar_aluOp (s : State) (v : Byte) : (setReg s .mar v).aluOp = s.aluOp := rfl
@[simp] theorem setReg_mar_aluFlags (s : State) (v : Byte) : (setReg s .mar v).aluFlags = s.aluFlags := rfl
@[simp] theorem setReg_mar_flagLatch (s : State) (v : Byte) : (setReg s .mar v).flagLatch = s.flagLatch := rfl
@[simp] theorem setReg_mar_lastBusValue (s : State) (v : Byte) : (setReg s .mar v).lastBusValue = s.lastBusValue := rfl
@[simp] theorem setReg_mar_out (s : State) (v : Byte) : (setReg s .mar v).out = s.out := rfl
@[simp] theorem setReg_mar_idleBusValue (s : State) (v : Byte) : (setReg s .mar v).idleBusValue = s.idleBusValue := rfl

/-! ### setReg .alu -/

@[simp] theorem setReg_alu_a (s : State) (v : Byte) : (setReg s .alu v).a = s.a := rfl
@[simp] theorem setReg_alu_b (s : State) (v : Byte) : (setReg s .alu v).b = s.b := rfl
@[simp] theorem setReg_alu_x (s : State) (v : Byte) : (setReg s .alu v).x = s.x := rfl
@[simp] theorem setReg_alu_pc (s : State) (v : Byte) : (setReg s .alu v).pc = s.pc := rfl
@[simp] theorem setReg_alu_sp (s : State) (v : Byte) : (setReg s .alu v).sp = s.sp := rfl
@[simp] theorem setReg_alu_ir (s : State) (v : Byte) : (setReg s .alu v).ir = s.ir := rfl
@[simp] theorem setReg_alu_opd (s : State) (v : Byte) : (setReg s .alu v).opd = s.opd := rfl
@[simp] theorem setReg_alu_mar (s : State) (v : Byte) : (setReg s .alu v).mar = s.mar := rfl
@[simp] theorem setReg_alu_alu (s : State) (v : Byte) : (setReg s .alu v).alu = v := rfl
@[simp] theorem setReg_alu_flg (s : State) (v : Byte) : (setReg s .alu v).flg = s.flg := rfl
@[simp] theorem setReg_alu_mem (s : State) (v : Byte) : (setReg s .alu v).mem = s.mem := rfl
@[simp] theorem setReg_alu_busValue (s : State) (v : Byte) : (setReg s .alu v).busValue = s.busValue := rfl
@[simp] theorem setReg_alu_busHasValue (s : State) (v : Byte) : (setReg s .alu v).busHasValue = s.busHasValue := rfl
@[simp] theorem setReg_alu_pending (s : State) (v : Byte) : (setReg s .alu v).pending = s.pending := rfl
@[simp] theorem setReg_alu_txList (s : State) (v : Byte) : (setReg s .alu v).txList = s.txList := rfl
@[simp] theorem setReg_alu_rxList (s : State) (v : Byte) : (setReg s .alu v).rxList = s.rxList := rfl
@[simp] theorem setReg_alu_microCounter (s : State) (v : Byte) : (setReg s .alu v).microCounter = s.microCounter := rfl
@[simp] theorem setReg_alu_halted (s : State) (v : Byte) : (setReg s .alu v).halted = s.halted := rfl
@[simp] theorem setReg_alu_activeWord (s : State) (v : Byte) : (setReg s .alu v).activeWord = s.activeWord := rfl
@[simp] theorem setReg_alu_microProgram (s : State) (v : Byte) : (setReg s .alu v).microProgram = s.microProgram := rfl
@[simp] theorem setReg_alu_aluOp (s : State) (v : Byte) : (setReg s .alu v).aluOp = s.aluOp := rfl
@[simp] theorem setReg_alu_aluFlags (s : State) (v : Byte) : (setReg s .alu v).aluFlags = s.aluFlags := rfl
@[simp] theorem setReg_alu_flagLatch (s : State) (v : Byte) : (setReg s .alu v).flagLatch = s.flagLatch := rfl
@[simp] theorem setReg_alu_lastBusValue (s : State) (v : Byte) : (setReg s .alu v).lastBusValue = s.lastBusValue := rfl
@[simp] theorem setReg_alu_out (s : State) (v : Byte) : (setReg s .alu v).out = s.out := rfl
@[simp] theorem setReg_alu_idleBusValue (s : State) (v : Byte) : (setReg s .alu v).idleBusValue = s.idleBusValue := rfl

/-! ### setReg .flg -/

@[simp] theorem setReg_flg_a (s : State) (v : Byte) : (setReg s .flg v).a = s.a := rfl
@[simp] theorem setReg_flg_b (s : State) (v : Byte) : (setReg s .flg v).b = s.b := rfl
@[simp] theorem setReg_flg_x (s : State) (v : Byte) : (setReg s .flg v).x = s.x := rfl
@[simp] theorem setReg_flg_pc (s : State) (v : Byte) : (setReg s .flg v).pc = s.pc := rfl
@[simp] theorem setReg_flg_sp (s : State) (v : Byte) : (setReg s .flg v).sp = s.sp := rfl
@[simp] theorem setReg_flg_ir (s : State) (v : Byte) : (setReg s .flg v).ir = s.ir := rfl
@[simp] theorem setReg_flg_opd (s : State) (v : Byte) : (setReg s .flg v).opd = s.opd := rfl
@[simp] theorem setReg_flg_mar (s : State) (v : Byte) : (setReg s .flg v).mar = s.mar := rfl
@[simp] theorem setReg_flg_alu (s : State) (v : Byte) : (setReg s .flg v).alu = s.alu := rfl
@[simp] theorem setReg_flg_flg (s : State) (v : Byte) : (setReg s .flg v).flg = v := rfl
@[simp] theorem setReg_flg_mem (s : State) (v : Byte) : (setReg s .flg v).mem = s.mem := rfl
@[simp] theorem setReg_flg_busValue (s : State) (v : Byte) : (setReg s .flg v).busValue = s.busValue := rfl
@[simp] theorem setReg_flg_busHasValue (s : State) (v : Byte) : (setReg s .flg v).busHasValue = s.busHasValue := rfl
@[simp] theorem setReg_flg_pending (s : State) (v : Byte) : (setReg s .flg v).pending = s.pending := rfl
@[simp] theorem setReg_flg_txList (s : State) (v : Byte) : (setReg s .flg v).txList = s.txList := rfl
@[simp] theorem setReg_flg_rxList (s : State) (v : Byte) : (setReg s .flg v).rxList = s.rxList := rfl
@[simp] theorem setReg_flg_microCounter (s : State) (v : Byte) : (setReg s .flg v).microCounter = s.microCounter := rfl
@[simp] theorem setReg_flg_halted (s : State) (v : Byte) : (setReg s .flg v).halted = s.halted := rfl
@[simp] theorem setReg_flg_activeWord (s : State) (v : Byte) : (setReg s .flg v).activeWord = s.activeWord := rfl
@[simp] theorem setReg_flg_microProgram (s : State) (v : Byte) : (setReg s .flg v).microProgram = s.microProgram := rfl
@[simp] theorem setReg_flg_aluOp (s : State) (v : Byte) : (setReg s .flg v).aluOp = s.aluOp := rfl
@[simp] theorem setReg_flg_aluFlags (s : State) (v : Byte) : (setReg s .flg v).aluFlags = s.aluFlags := rfl
@[simp] theorem setReg_flg_flagLatch (s : State) (v : Byte) : (setReg s .flg v).flagLatch = s.flagLatch := rfl
@[simp] theorem setReg_flg_lastBusValue (s : State) (v : Byte) : (setReg s .flg v).lastBusValue = s.lastBusValue := rfl
@[simp] theorem setReg_flg_out (s : State) (v : Byte) : (setReg s .flg v).out = s.out := rfl
@[simp] theorem setReg_flg_idleBusValue (s : State) (v : Byte) : (setReg s .flg v).idleBusValue = s.idleBusValue := rfl

/-! ### setReg at any register: the fields that are no register -/

@[simp] theorem setReg_mem (s : State) (r : Reg) (v : Byte) : (setReg s r v).mem = s.mem := by cases r <;> rfl
@[simp] theorem setReg_busValue (s : State) (r : Reg) (v : Byte) : (setReg s r v).busValue = s.busValue := by cases r <;> rfl
@[simp] theorem setReg_busHasValue (s : State) (r : Reg) (v : Byte) : (setReg s r v).busHasValue = s.busHasValue := by cases r <;> rfl
@[simp] theorem setReg_pending (s : State) (r : Reg) (v : Byte) : (setReg s r v).pending = s.pending := by cases r <;> rfl
@[simp] theorem setReg_txList (s : State) (r : Reg) (v : Byte) : (setReg s r v).txList = s.txList := by cases r <;> rfl
@[simp] theorem setReg_rxList (s : State) (r : Reg) (v : Byte) : (setReg s r v).rxList = s.rxList := by cases r <;> rfl
@[simp] theorem setReg_microCounter (s : State) (r : Reg) (v : Byte) : (setReg s r v).microCounter = s.microCounter := by cases r <;> rfl
@[simp] theorem setReg_halted (s : State) (r : Reg) (v : Byte) : (setReg s r v).halted = s.halted := by cases r <;> rfl
@[simp] theorem setReg_activeWord (s : State) (r : Reg) (v : Byte) : (setReg s r v).activeWord = s.activeWord := by cases r <;> rfl
@[simp] theorem setReg_microProgram (s : State) (r : Reg) (v : Byte) : (setReg s r v).microProgram = s.microProgram := by cases r <;> rfl
@[simp] theorem setReg_aluOp (s : State) (r : Reg) (v : Byte) : (setReg s r v).aluOp = s.aluOp := by cases r <;> rfl
@[simp] theorem setReg_aluFlags (s : State) (r : Reg) (v : Byte) : (setReg s r v).aluFlags = s.aluFlags := by cases r <;> rfl
@[simp] theorem setReg_flagLatch (s : State) (r : Reg) (v : Byte) : (setReg s r v).flagLatch = s.flagLatch := by cases r <;> rfl
@[simp] theorem setReg_lastBusValue (s : State) (r : Reg) (v : Byte) : (setReg s r v).lastBusValue = s.lastBusValue := by cases r <;> rfl
@[simp] theorem setReg_out (s : State) (r : Reg) (v : Byte) : (setReg s r v).out = s.out := by cases r <;> rfl
@[simp] theorem setReg_idleBusValue (s : State) (r : Reg) (v : Byte) : (setReg s r v).idleBusValue = s.idleBusValue := by cases r <;> rfl

/-! ### componentTake at any component: the fields that are neither register nor memory -/

@[simp] theorem componentTake_busValue (s : State) (c : Component) (v : Byte) :
    (componentTake s c v).busValue = s.busValue := by cases c with | reg r => cases r <;> rfl | mem => rfl
@[simp] theorem componentTake_busHasValue (s : State) (c : Component) (v : Byte) :
    (componentTake s c v).busHasValue = s.busHasValue := by cases c with | reg r => cases r <;> rfl | mem => rfl
@[simp] theorem componentTake_pending (s : State) (c : Component) (v : Byte) :
    (componentTake s c v).pending = s.pending := by cases c with | reg r => cases r <;> rfl | mem => rfl
@[simp] theorem componentTake_txList (s : State) (c : Component) (v : Byte) :
    (componentTake s c v).txList = s.txList := by cases c with | reg r => cases r <;> rfl | mem => rfl
@[simp] theorem componentTake_rxList (s : State) (c : Component) (v : Byte) :
    (componentTake s c v).rxList = s.rxList := by cases c with | reg r => cases r <;> rfl | mem => rfl
@[simp] theorem componentTake_microCounter (s : State) (c : Component) (v : Byte) :
    (componentTake s c v).microCounter = s.microCounter := by cases c with | reg r => cases r <;> rfl | mem => rfl
@[simp] theorem componentTake_halted (s : State) (c : Component) (v : Byte) :
    (componentTake s c v).halted = s.halted := by cases c with | reg r => cases r <;> rfl | mem => rfl
@[simp] theorem componentTake_activeWord (s : State) (c : Component) (v : Byte) :
    (componentTake s c v).activeWord = s.activeWord := by cases c with | reg r => cases r <;> rfl | mem => rfl
@[simp] theorem componentTake_microProgram (s : State) (c : Component) (v : Byte) :
    (componentTake s c v).microProgram = s.microProgram := by cases c with | reg r => cases r <;> rfl | mem => rfl
@[simp] theorem componentTake_aluOp (s : State) (c : Component) (v : Byte) :
    (componentTake s c v).aluOp = s.aluOp := by cases c with | reg r => cases r <;> rfl | mem => rfl
@[simp] theorem componentTake_aluFlags (s : State) (c : Component) (v : Byte) :
    (componentTake s c v).aluFlags = s.aluFlags := by cases c with | reg r => cases r <;> rfl | mem => rfl
@[simp] theorem componentTake_flagLatch (s : State) (c : Component) (v : Byte) :
    (componentTake s c v).flagLatch = s.flagLatch := by cases c with | reg r => cases r <;> rfl | mem => rfl
@[simp] theorem componentTake_lastBusValue (s : State) (c : Component) (v : Byte) :
    (componentTake s c v).lastBusValue = s.lastBusValue := by cases c with | reg r => cases r <;> rfl | mem => rfl
@[simp] theorem componentTake_out (s : State) (c : Component) (v : Byte) :
    (componentTake s c v).out = s.out := by cases c with | reg r => cases r <;> rfl | mem => rfl
@[simp] theorem componentTake_idleBusValue (s : State) (c : Component) (v : Byte) :
    (componentTake s c v).idleBusValue = s.idleBusValue := by cases c with | reg r => cases r <;> rfl | mem => rfl

/-! ### State.write -/

@[simp] theorem write_a (s : State) (addr v : Byte) : (s.write addr v).a = s.a := rfl
@[simp] theorem write_b (s : State) (addr v : Byte) : (s.write addr v).b = s.b := rfl
@[simp] theorem write_x (s : State) (addr v : Byte) : (s.write addr v).x = s.x := rfl
@[simp] theorem write_pc (s : State) (addr v : Byte) : (s.write addr v).pc = s.pc := rfl
@[simp] theorem write_sp (s : State) (addr v : Byte) : (s.write addr v).sp = s.sp := rfl
@[simp] theorem write_ir (s : State) (addr v : Byte) : (s.write addr v).ir = s.ir := rfl
@[simp] theorem write_opd (s : State) (addr v : Byte) : (s.write addr v).opd = s.opd := rfl
@[simp] theorem write_mar (s : State) (addr v : Byte) : (s.write addr v).mar = s.mar := rfl
@[simp] theorem write_alu (s : State) (addr v : Byte) : (s.write addr v).alu = s.alu := rfl
@[simp] theorem write_flg (s : State) (addr v : Byte) : (s.write addr v).flg = s.flg := rfl
@[simp] theorem write_mem (s : State) (addr v : Byte) : (s.write addr v).mem = memWrite s.mem addr v := rfl
@[simp] theorem write_busValue (s : State) (addr v : Byte) : (s.write addr v).busValue = s.busValue := rfl
@[simp] theorem write_busHasValue (s : State) (addr v : Byte) : (s.write addr v).busHasValue = s.busHasValue := rfl
@[simp] theorem write_pending (s : State) (addr v : Byte) : (s.write addr v).pending = s.pending := rfl
@[simp] theorem write_txList (s : State) (addr v : Byte) : (s.write addr v).txList = s.txList := rfl
@[simp] theorem write_rxList (s : State) (addr v : Byte) : (s.write addr v).rxList = s.rxList := rfl
@[simp] theorem write_microCounter (s : State) (addr v : Byte) : (s.write addr v).microCounter = s.microCounter := rfl
@[simp] theorem write_halted (s : State) (addr v : Byte) : (s.write addr v).halted = s.halted := rfl
@[simp] theorem write_activeWord (s : State) (addr v : Byte) : (s.write addr v).activeWord = s.activeWord := rfl
@[simp] theorem write_microProgram (s : State) (addr v : Byte) : (s.write addr v).microProgram = s.microProgram := rfl
@[simp] theorem write_aluOp (s : State) (addr v : Byte) : (s.write addr v).aluOp = s.aluOp := rfl
@[simp] theorem write_aluFlags (s : State) (addr v : Byte) : (s.write addr v).aluFlags = s.aluFlags := rfl
@[simp] theorem write_flagLatch (s : State) (addr v : Byte) : (s.write addr v).flagLatch = s.flagLatch := rfl
@[simp] theorem write_lastBusValue (s : State) (addr v : Byte) : (s.write addr v).lastBusValue = s.lastBusValue := rfl
@[simp] theorem write_out (s : State) (addr v : Byte) : (s.write addr v).out = s.out := rfl
@[simp] theorem write_idleBusValue (s : State) (addr v : Byte) : (s.write addr v).idleBusValue = s.idleBusValue := rfl

/-! ### unmark -/

@[simp] theorem unmark_a (c : Component) (s : State) : (unmark c s).a = s.a := rfl
@[simp] theorem unmark_b (c : Component) (s : State) : (unmark c s).b = s.b := rfl
@[simp] theorem unmark_x (c : Component) (s : State) : (unmark c s).x = s.x := rfl
@[simp] theorem unmark_pc (c : Component) (s : State) : (unmark c s).pc = s.pc := rfl
@[simp] theorem unmark_sp (c : Component) (s : State) : (unmark c s).sp = s.sp := rfl
@[simp] theorem unmark_ir (c : Component) (s : State) : (unmark c s).ir = s.ir := rfl
@[simp] theorem unmark_opd (c : Component) (s : State) : (unmark c s).opd = s.opd := rfl
@[simp] theorem unmark_mar (c : Component) (s : State) : (unmark c s).mar = s.mar := rfl
@[simp] theorem unmark_alu (c : Component) (s : State) : (unmark c s).alu = s.alu := rfl
@[simp] theorem unmark_flg (c : Component) (s : State) : (unmark c s).flg = s.flg := rfl
@[simp] theorem unmark_mem (c : Component) (s : State) : (unmark c s).mem = s.mem := rfl
@[simp] theorem unmark_busValue (c : Component) (s : State) : (unmark c s).busValue = s.busValue := rfl
@[simp] theorem unmark_busHasValue (c : Component) (s : State) : (unmark c s).busHasValue = s.busHasValue := rfl
@[simp] theorem unmark_pending (c : Component) (s : State) : (unmark c s).pending = setPending s.pending c .none := rfl
@[simp] theorem unmark_txList (c : Component) (s : State) : (unmark c s).txList = s.txList := rfl
@[simp] theorem unmark_rxList (c : Component) (s : State) : (unmark c s).rxList = s.rxList := rfl
@[simp] theorem unmark_microCounter (c : Component) (s : State) : (unmark c s).microCounter = s.microCounter := rfl
@[simp] theorem unmark_halted (c : Component) (s : State) : (unmark c s).halted = s.halted := rfl
@[simp] theorem unmark_activeWord (c : Component) (s : State) : (unmark c s).activeWord = s.activeWord := rfl
@[simp] theorem unmark_microProgram (c : Component) (s : State) : (unmark c s).microProgram = s.microProgram := rfl
@[simp] theorem unmark_aluOp (c : Component) (s : State) : (unmark c s).aluOp = s.aluOp := rfl
@[simp] theorem unmark_aluFlags (c : Component) (s : State) : (unmark c s).aluFlags = s.aluFlags := rfl
@[simp] theorem unmark_flagLatch (c : Component) (s : State) : (unmark c s).flagLatch = s.flagLatch := rfl
@[simp] theorem unmark_lastBusValue (c : Component) (s : State) : (unmark c s).lastBusValue = s.lastBusValue := rfl
@[simp] theorem unmark_out (c : Component) (s : State) : (unmark c s).out = s.out := rfl
@[simp] theorem unmark_idleBusValue (c : Component) (s : State) : (unmark c s).idleBusValue = s.idleBusValue := rfl

/-! ### markReceive -/

@[simp] theorem markReceive_a (c : Component) (s : State) : (markReceive c s).a = s.a := rfl
@[simp] theorem markReceive_b (c : Component) (s : State) : (markReceive c s).b = s.b := rfl
@[simp] theorem markReceive_x (c : Component) (s : State) : (markReceive c s).x = s.x := rfl
@[simp] theorem markReceive_pc (c : Component) (s : State) : (markReceive c s).pc = s.pc := rfl
@[simp] theorem markReceive_sp (c : Component) (s : State) : (markReceive c s).sp = s.sp := rfl
@[simp] theorem markReceive_ir (c : Component) (s : State) : (markReceive c s).ir = s.ir := rfl
@[simp] theorem markReceive_opd (c : Component) (s : State) : (markReceive c s).opd = s.opd := rfl
@[simp] theorem markReceive_mar (c : Component) (s : State) : (markReceive c s).mar = s.mar := rfl
@[simp] theorem markReceive_alu (c : Component) (s : State) : (markReceive c s).alu = s.alu := rfl
@[simp] theorem markReceive_flg (c : Component) (s : State) : (markReceive c s).flg = s.flg := rfl
@[simp] theorem markReceive_mem (c : Component) (s : State) : (markReceive c s).mem = s.mem := rfl
@[simp] theorem markReceive_busValue (c : Component) (s : State) : (markReceive c s).busValue = s.busValue := rfl
@[simp] theorem markReceive_busHasValue (c : Component) (s : State) : (markReceive c s).busHasValue = s.busHasValue := rfl
@[simp] theorem markReceive_pending (c : Component) (s : State) : (markReceive c s).pending = setPending s.pending c .receive := rfl
@[simp] theorem markReceive_txList (c : Component) (s : State) : (markReceive c s).txList = s.txList := rfl
@[simp] theorem markReceive_rxList (c : Component) (s : State) : (markReceive c s).rxList = s.rxList ++ [c] := rfl
@[simp] theorem markReceive_microCounter (c : Component) (s : State) : (markReceive c s).microCounter = s.microCounter := rfl
@[simp] theorem markReceive_halted (c : Component) (s : State) : (markReceive c s).halted = s.halted := rfl
@[simp] theorem markReceive_activeWord (c : Component) (s : State) : (markReceive c s).activeWord = s.activeWord := rfl
@[simp] theorem markReceive_microProgram (c : Component) (s : State) : (markReceive c s).microProgram = s.microProgram := rfl
@[simp] theorem markReceive_aluOp (c : Component) (s : State) : (markReceive c s).aluOp = s.aluOp := rfl
@[simp] theorem markReceive_aluFlags (c : Component) (s : State) : (markReceive c s).aluFlags = s.aluFlags := rfl
@[simp] theorem markReceive_flagLatch (c : Component) (s : State) : (markReceive c s).flagLatch = s.flagLatch := rfl
@[simp] theorem markReceive_lastBusValue (c : Component) (s : State) : (markReceive c s).lastBusValue = s.lastBusValue := rfl
@[simp] theorem markReceive_out (c : Component) (s : State) : (markReceive c s).out = s.out := rfl
@[simp] theorem markReceive_idleBusValue (c : Component) (s : State) : (markReceive c s).idleBusValue = s.idleBusValue := rfl

/-! ### busClockReset -/

@[simp] theorem busClockReset_a (s : State) : (busClockReset s).a = s.a := rfl
@[simp] theorem busClockReset_b (s : State) : (busClockReset s).b = s.b := rfl
@[simp] theorem busClockReset_x (s : State) : (busClockReset s).x = s.x := rfl
@[simp] theorem busClockReset_pc (s : State) : (busClockReset s).pc = s.pc := rfl
@[simp] theorem busClockReset_sp (s : State) : (busClockReset s).sp = s.sp := rfl
@[simp] theorem busClockReset_ir (s : State) : (busClockReset s).ir = s.ir := rfl
@[simp] theorem busClockReset_opd (s : State) : (busClockReset s).opd = s.opd := rfl
@[simp] theorem busClockReset_mar (s : State) : (busClockReset s).mar = s.mar := rfl
@[simp] theorem busClockReset_alu (s : State) : (busClockReset s).alu = s.alu := rfl
@[simp] theorem busClockReset_flg (s : State) : (busClockReset s).flg = s.flg := rfl
@[simp] theorem busClockReset_mem (s : State) : (busClockReset s).mem = s.mem := rfl
@[simp] theorem busClockReset_busValue (s : State) : (busClockReset s).busValue = 0#8 := rfl
@[simp] theorem busClockReset_busHasValue (s : State) : (busClockReset s).busHasValue = false := rfl
@[simp] theorem busClockReset_pending (s : State) : (busClockReset s).pending = s.pending := rfl
@[simp] theorem busClockReset_txList (s : State) : (busClockReset s).txList = s.txList := rfl
@[simp] theorem busClockReset_rxList (s : State) : (busClockReset s).rxList = s.rxList := rfl
@[simp] theorem busClockReset_microCounter (s : State) : (busClockReset s).microCounter = s.microCounter := rfl
@[simp] theorem busClockReset_halted (s : State) : (busClockReset s).halted = s.halted := rfl
@[simp] theorem busClockReset_activeWord (s : State) : (busClockReset s).activeWord = s.activeWord := rfl
@[simp] theorem busClockReset_microProgram (s : State) : (busClockReset s).microProgram = s.microProgram := rfl
@[simp] theorem busClockReset_aluOp (s : State) : (busClockReset s).aluOp = s.aluOp := rfl
@[simp] theorem busClockReset_aluFlags (s : State) : (busClockReset s).aluFlags = s.aluFlags := rfl
@[simp] theorem busClockReset_flagLatch (s : State) : (busClockReset s).flagLatch = s.flagLatch := rfl
@[simp] theorem busClockReset_lastBusValue (s : State) : (busClockReset s).lastBusValue = s.lastBusValue := rfl
@[simp] theorem busClockReset_out (s : State) : (busClockReset s).out = s.out := rfl
@[simp] theorem busClockReset_idleBusValue (s : State) : (busClockReset s).idleBusValue = s.idleBusValue := rfl

/-! ### cacheBus -/

@[simp] theorem cacheBus_a (s : State) : (cacheBus s).a = s.a := rfl
@[simp] theorem cacheBus_b (s : State) : (cacheBus s).b = s.b := rfl
@[simp] theorem cacheBus_x (s : State) : (cacheBus s).x = s.x := rfl
@[simp] theorem cacheBus_pc (s : State) : (cacheBus s).pc = s.pc := rfl
@[simp] theorem cacheBus_sp (s : State) : (cacheBus s).sp = s.sp := rfl
@[simp] theorem cacheBus_ir (s : State) : (cacheBus s).ir = s.ir := rfl
@[simp] theorem cacheBus_opd (s : State) : (cacheBus s).opd = s.opd := rfl
@[simp] theorem cacheBus_mar (s : State) : (cacheBus s).mar = s.mar := rfl
@[simp] theorem cacheBus_alu (s : State) : (cacheBus s).alu = s.alu := rfl
@[simp] theorem cacheBus_flg (s : State) : (cacheBus s).flg = s.flg := rfl
@[simp] theorem cacheBus_mem (s : State) : (cacheBus s).mem = s.mem := rfl
@[simp] theorem cacheBus_busValue (s : State) : (cacheBus s).busValue = s.busValue := rfl
@[simp] theorem cacheBus_busHasValue (s : State) : (cacheBus s).busHasValue = s.busHasValue := rfl
@[simp] theorem cacheBus_pending (s : State) : (cacheBus s).pending = s.pending := rfl
@[simp] theorem cacheBus_txList (s : State) : (cacheBus s).txList = s.txList := rfl
@[simp] theorem cacheBus_rxList (s : State) : (cacheBus s).rxList = s.rxList := rfl
@[simp] theorem cacheBus_microCounter (s : State) : (cacheBus s).microCounter = s.microCounter := rfl
@[simp] theorem cacheBus_halted (s : State) : (cacheBus s).halted = s.halted := rfl
@[simp] theorem cacheBus_activeWord (s : State) : (cacheBus s).activeWord = s.activeWord := rfl
@[simp] theorem cacheBus_microProgram (s : State) : (cacheBus s).microProgram = s.microProgram := rfl
@[simp] theorem cacheBus_aluOp (s : State) : (cacheBus s).aluOp = s.aluOp := rfl
@[simp] theorem cacheBus_aluFlags (s : State) : (cacheBus s).aluFlags = s.aluFlags := rfl
@[simp] theorem cacheBus_flagLatch (s : State) : (cacheBus s).flagLatch = s.flagLatch := rfl
@[simp] theorem cacheBus_lastBusValue (s : State) : (cacheBus s).lastBusValue = if s.busHasValue then s.busValue else s.idleBusValue := rfl
@[simp] theorem cacheBus_out (s : State) : (cacheBus s).out = s.out := rfl
@[simp] theorem cacheBus_idleBusValue (s : State) : (cacheBus s).idleBusValue = s.idleBusValue := rfl

/-! ### clockLatches -/

@[simp] theorem clockLatches_a (s : State) : (clockLatches s).a = s.a := rfl
@[simp] theorem clockLatches_b (s : State) : (clockLatches s).b = s.b := rfl
@[simp] theorem clockLatches_x (s : State) : (clockLatches s).x = s.x := rfl
@[simp] theorem clockLatches_pc (s : State) : (clockLatches s).pc = s.pc := rfl
@[simp] theorem clockLatches_sp (s : State) : (clockLatches s).sp = s.sp := rfl
@[simp] theorem clockLatches_ir (s : State) : (clockLatches s).ir = s.ir := rfl
@[simp] theorem clockLatches_opd (s : State) : (clockLatches s).opd = s.opd := rfl
@[simp] theorem clockLatches_mar (s : State) : (clockLatches s).mar = s.mar := rfl
@[simp] theorem clockLatches_alu (s : State) : (clockLatches s).alu = s.alu := rfl
@[simp] theorem clockLatches_flg (s : State) : (clockLatches s).flg = if s.flagLatch then flagByte s.aluFlags else s.flg := rfl
@[simp] theorem clockLatches_mem (s : State) : (clockLatches s).mem = s.mem := rfl
@[simp] theorem clockLatches_busValue (s : State) : (clockLatches s).busValue = s.busValue := rfl
@[simp] theorem clockLatches_busHasValue (s : State) : (clockLatches s).busHasValue = s.busHasValue := rfl
@[simp] theorem clockLatches_pending (s : State) : (clockLatches s).pending = s.pending := rfl
@[simp] theorem clockLatches_txList (s : State) : (clockLatches s).txList = s.txList := rfl
@[simp] theorem clockLatches_rxList (s : State) : (clockLatches s).rxList = s.rxList := rfl
@[simp] theorem clockLatches_microCounter (s : State) : (clockLatches s).microCounter = s.microCounter := rfl
@[simp] theorem clockLatches_halted (s : State) : (clockLatches s).halted = s.halted := rfl
@[simp] theorem clockLatches_activeWord (s : State) : (clockLatches s).activeWord = s.activeWord := rfl
@[simp] theorem clockLatches_microProgram (s : State) : (clockLatches s).microProgram = s.microProgram := rfl
@[simp] theorem clockLatches_aluOp (s : State) : (clockLatches s).aluOp = .add := rfl
@[simp] theorem clockLatches_aluFlags (s : State) : (clockLatches s).aluFlags = s.aluFlags := rfl
@[simp] theorem clockLatches_flagLatch (s : State) : (clockLatches s).flagLatch = false := rfl
@[simp] theorem clockLatches_lastBusValue (s : State) : (clockLatches s).lastBusValue = s.lastBusValue := rfl
@[simp] theorem clockLatches_out (s : State) : (clockLatches s).out = s.out := rfl
@[simp] theorem clockLatches_idleBusValue (s : State) : (clockLatches s).idleBusValue = s.idleBusValue := rfl

/-! ### advanceCounter -/

@[simp] theorem advanceCounter_a (s : State) : (advanceCounter s).a = s.a := rfl
@[simp] theorem advanceCounter_b (s : State) : (advanceCounter s).b = s.b := rfl
@[simp] theorem advanceCounter_x (s : State) : (advanceCounter s).x = s.x := rfl
@[simp] theorem advanceCounter_pc (s : State) : (advanceCounter s).pc = s.pc := rfl
@[simp] theorem advanceCounter_sp (s : State) : (advanceCounter s).sp = s.sp := rfl
@[simp] theorem advanceCounter_ir (s : State) : (advanceCounter s).ir = s.ir := rfl
@[simp] theorem advanceCounter_opd (s : State) : (advanceCounter s).opd = s.opd := rfl
@[simp] theorem advanceCounter_mar (s : State) : (advanceCounter s).mar = s.mar := rfl
@[simp] theorem advanceCounter_alu (s : State) : (advanceCounter s).alu = s.alu := rfl
@[simp] theorem advanceCounter_flg (s : State) : (advanceCounter s).flg = s.flg := rfl
@[simp] theorem advanceCounter_mem (s : State) : (advanceCounter s).mem = s.mem := rfl
@[simp] theorem advanceCounter_busValue (s : State) : (advanceCounter s).busValue = s.busValue := rfl
@[simp] theorem advanceCounter_busHasValue (s : State) : (advanceCounter s).busHasValue = s.busHasValue := rfl
@[simp] theorem advanceCounter_pending (s : State) : (advanceCounter s).pending = s.pending := rfl
@[simp] theorem advanceCounter_txList (s : State) : (advanceCounter s).txList = s.txList := rfl
@[simp] theorem advanceCounter_rxList (s : State) : (advanceCounter s).rxList = s.rxList := rfl
@[simp] theorem advanceCounter_microCounter (s : State) : (advanceCounter s).microCounter = if has .rst s.activeWord then 0 else s.microCounter + 1 := rfl
@[simp] theorem advanceCounter_halted (s : State) : (advanceCounter s).halted = s.halted := rfl
@[simp] theorem advanceCounter_activeWord (s : State) : (advanceCounter s).activeWord = s.activeWord := rfl
@[simp] theorem advanceCounter_microProgram (s : State) : (advanceCounter s).microProgram = s.microProgram := rfl
@[simp] theorem advanceCounter_aluOp (s : State) : (advanceCounter s).aluOp = s.aluOp := rfl
@[simp] theorem advanceCounter_aluFlags (s : State) : (advanceCounter s).aluFlags = s.aluFlags := rfl
@[simp] theorem advanceCounter_flagLatch (s : State) : (advanceCounter s).flagLatch = s.flagLatch := rfl
@[simp] theorem advanceCounter_lastBusValue (s : State) : (advanceCounter s).lastBusValue = s.lastBusValue := rfl
@[simp] theorem advanceCounter_out (s : State) : (advanceCounter s).out = s.out := rfl
@[simp] theorem advanceCounter_idleBusValue (s : State) : (advanceCounter s).idleBusValue = s.idleBusValue := rfl

/-! ### computeAlu -/

@[simp] theorem computeAlu_a (w : CtrlWord) (s : State) : (computeAlu w s).a = s.a := rfl
@[simp] theorem computeAlu_b (w : CtrlWord) (s : State) : (computeAlu w s).b = s.b := rfl
@[simp] theorem computeAlu_x (w : CtrlWord) (s : State) : (computeAlu w s).x = s.x := rfl
@[simp] theorem computeAlu_pc (w : CtrlWord) (s : State) : (computeAlu w s).pc = s.pc := rfl
@[simp] theorem computeAlu_sp (w : CtrlWord) (s : State) : (computeAlu w s).sp = s.sp := rfl
@[simp] theorem computeAlu_ir (w : CtrlWord) (s : State) : (computeAlu w s).ir = s.ir := rfl
@[simp] theorem computeAlu_opd (w : CtrlWord) (s : State) : (computeAlu w s).opd = s.opd := rfl
@[simp] theorem computeAlu_mar (w : CtrlWord) (s : State) : (computeAlu w s).mar = s.mar := rfl
@[simp] theorem computeAlu_alu (w : CtrlWord) (s : State) : (computeAlu w s).alu = aluResult s.aluOp s.a s.x := rfl
@[simp] theorem computeAlu_flg (w : CtrlWord) (s : State) : (computeAlu w s).flg = s.flg := rfl
@[simp] theorem computeAlu_mem (w : CtrlWord) (s : State) : (computeAlu w s).mem = s.mem := rfl
@[simp] theorem computeAlu_busValue (w : CtrlWord) (s : State) : (computeAlu w s).busValue = s.busValue := rfl
@[simp] theorem computeAlu_busHasValue (w : CtrlWord) (s : State) : (computeAlu w s).busHasValue = s.busHasValue := rfl
@[simp] theorem computeAlu_pending (w : CtrlWord) (s : State) : (computeAlu w s).pending = s.pending := rfl
@[simp] theorem computeAlu_txList (w : CtrlWord) (s : State) : (computeAlu w s).txList = s.txList := rfl
@[simp] theorem computeAlu_rxList (w : CtrlWord) (s : State) : (computeAlu w s).rxList = s.rxList := rfl
@[simp] theorem computeAlu_microCounter (w : CtrlWord) (s : State) : (computeAlu w s).microCounter = s.microCounter := rfl
@[simp] theorem computeAlu_halted (w : CtrlWord) (s : State) : (computeAlu w s).halted = s.halted := rfl
@[simp] theorem computeAlu_activeWord (w : CtrlWord) (s : State) : (computeAlu w s).activeWord = s.activeWord := rfl
@[simp] theorem computeAlu_microProgram (w : CtrlWord) (s : State) : (computeAlu w s).microProgram = s.microProgram := rfl
@[simp] theorem computeAlu_aluOp (w : CtrlWord) (s : State) : (computeAlu w s).aluOp = s.aluOp := rfl
@[simp] theorem computeAlu_aluFlags (w : CtrlWord) (s : State) : (computeAlu w s).aluFlags = aluFlagResult s.aluOp s.a s.x := rfl
@[simp] theorem computeAlu_flagLatch (w : CtrlWord) (s : State) : (computeAlu w s).flagLatch = has .alo w := rfl
@[simp] theorem computeAlu_lastBusValue (w : CtrlWord) (s : State) : (computeAlu w s).lastBusValue = s.lastBusValue := rfl
@[simp] theorem computeAlu_out (w : CtrlWord) (s : State) : (computeAlu w s).out = s.out := rfl
@[simp] theorem computeAlu_idleBusValue (w : CtrlWord) (s : State) : (computeAlu w s).idleBusValue = s.idleBusValue := rfl

/-! ### afterFetch -/

@[simp] theorem afterFetch_a (op n : Byte) (s : State) : (afterFetch op n s).a = s.a := rfl
@[simp] theorem afterFetch_b (op n : Byte) (s : State) : (afterFetch op n s).b = s.b := rfl
@[simp] theorem afterFetch_x (op n : Byte) (s : State) : (afterFetch op n s).x = s.x := rfl
@[simp] theorem afterFetch_pc (op n : Byte) (s : State) : (afterFetch op n s).pc = s.pc + 2#8 := rfl
@[simp] theorem afterFetch_sp (op n : Byte) (s : State) : (afterFetch op n s).sp = s.sp := rfl
@[simp] theorem afterFetch_ir (op n : Byte) (s : State) : (afterFetch op n s).ir = op := rfl
@[simp] theorem afterFetch_opd (op n : Byte) (s : State) : (afterFetch op n s).opd = n := rfl
@[simp] theorem afterFetch_mar (op n : Byte) (s : State) : (afterFetch op n s).mar = s.pc + 1#8 := rfl
@[simp] theorem afterFetch_alu (op n : Byte) (s : State) : (afterFetch op n s).alu = s.a + s.x := rfl
@[simp] theorem afterFetch_flg (op n : Byte) (s : State) : (afterFetch op n s).flg = s.flg := rfl
@[simp] theorem afterFetch_mem (op n : Byte) (s : State) : (afterFetch op n s).mem = s.mem := rfl
@[simp] theorem afterFetch_busValue (op n : Byte) (s : State) : (afterFetch op n s).busValue = s.busValue := rfl
@[simp] theorem afterFetch_busHasValue (op n : Byte) (s : State) : (afterFetch op n s).busHasValue = s.busHasValue := rfl
@[simp] theorem afterFetch_pending (op n : Byte) (s : State) : (afterFetch op n s).pending = s.pending := rfl
@[simp] theorem afterFetch_txList (op n : Byte) (s : State) : (afterFetch op n s).txList = s.txList := rfl
@[simp] theorem afterFetch_rxList (op n : Byte) (s : State) : (afterFetch op n s).rxList = s.rxList := rfl
@[simp] theorem afterFetch_microCounter (op n : Byte) (s : State) : (afterFetch op n s).microCounter = 4 := rfl
@[simp] theorem afterFetch_halted (op n : Byte) (s : State) : (afterFetch op n s).halted = s.halted := rfl
@[simp] theorem afterFetch_activeWord (op n : Byte) (s : State) : (afterFetch op n s).activeWord = word [.mo, .oi, .pcp] := rfl
@[simp] theorem afterFetch_microProgram (op n : Byte) (s : State) : (afterFetch op n s).microProgram = s.microProgram := rfl
@[simp] theorem afterFetch_aluOp (op n : Byte) (s : State) : (afterFetch op n s).aluOp = s.aluOp := rfl
@[simp] theorem afterFetch_aluFlags (op n : Byte) (s : State) : (afterFetch op n s).aluFlags = aluFlagResult .add s.a s.x := rfl
@[simp] theorem afterFetch_flagLatch (op n : Byte) (s : State) : (afterFetch op n s).flagLatch = s.flagLatch := rfl
@[simp] theorem afterFetch_lastBusValue (op n : Byte) (s : State) : (afterFetch op n s).lastBusValue = n := rfl
@[simp] theorem afterFetch_out (op n : Byte) (s : State) : (afterFetch op n s).out = s.out := rfl
@[simp] theorem afterFetch_idleBusValue (op n : Byte) (s : State) : (afterFetch op n s).idleBusValue = s.idleBusValue := rfl

/-! ### finished -/

@[simp] theorem finished_a (op : Byte) (p : MicroProgram) (s : State) :
    (finished op p s).a = s.a := rfl
@[simp] theorem finished_b (op : Byte) (p : MicroProgram) (s : State) :
    (finished op p s).b = s.b := rfl
@[simp] theorem finished_x (op : Byte) (p : MicroProgram) (s : State) :
    (finished op p s).x = s.x := rfl
@[simp] theorem finished_pc (op : Byte) (p : MicroProgram) (s : State) :
    (finished op p s).pc = s.pc := rfl
@[simp] theorem finished_sp (op : Byte) (p : MicroProgram) (s : State) :
    (finished op p s).sp = s.sp := rfl
@[simp] theorem finished_ir (op : Byte) (p : MicroProgram) (s : State) :
    (finished op p s).ir = op := rfl
@[simp] theorem finished_opd (op : Byte) (p : MicroProgram) (s : State) :
    (finished op p s).opd = s.opd := rfl
@[simp] theorem finished_mar (op : Byte) (p : MicroProgram) (s : State) :
    (finished op p s).mar = s.mar := rfl
@[simp] theorem finished_alu (op : Byte) (p : MicroProgram) (s : State) :
    (finished op p s).alu = s.alu := rfl
@[simp] theorem finished_flg (op : Byte) (p : MicroProgram) (s : State) :
    (finished op p s).flg = s.flg := rfl
@[simp] theorem finished_mem (op : Byte) (p : MicroProgram) (s : State) :
    (finished op p s).mem = s.mem := rfl
@[simp] theorem finished_busValue (op : Byte) (p : MicroProgram) (s : State) :
    (finished op p s).busValue = s.busValue := rfl
@[simp] theorem finished_busHasValue (op : Byte) (p : MicroProgram) (s : State) :
    (finished op p s).busHasValue = s.busHasValue := rfl
@[simp] theorem finished_pending (op : Byte) (p : MicroProgram) (s : State) :
    (finished op p s).pending = s.pending := rfl
@[simp] theorem finished_txList (op : Byte) (p : MicroProgram) (s : State) :
    (finished op p s).txList = s.txList := rfl
@[simp] theorem finished_rxList (op : Byte) (p : MicroProgram) (s : State) :
    (finished op p s).rxList = s.rxList := rfl
@[simp] theorem finished_microCounter (op : Byte) (p : MicroProgram) (s : State) :
    (finished op p s).microCounter = 0 := rfl
@[simp] theorem finished_halted (op : Byte) (p : MicroProgram) (s : State) :
    (finished op p s).halted = s.halted := rfl
@[simp] theorem finished_activeWord (op : Byte) (p : MicroProgram) (s : State) :
    (finished op p s).activeWord = p.getLast?.getD 0#32 := rfl
@[simp] theorem finished_microProgram (op : Byte) (p : MicroProgram) (s : State) :
    (finished op p s).microProgram = p := rfl
@[simp] theorem finished_aluOp (op : Byte) (p : MicroProgram) (s : State) :
    (finished op p s).aluOp = s.aluOp := rfl
@[simp] theorem finished_aluFlags (op : Byte) (p : MicroProgram) (s : State) :
    (finished op p s).aluFlags = s.aluFlags := rfl
@[simp] theorem finished_flagLatch (op : Byte) (p : MicroProgram) (s : State) :
    (finished op p s).flagLatch = s.flagLatch := rfl
@[simp] theorem finished_lastBusValue (op : Byte) (p : MicroProgram) (s : State) :
    (finished op p s).lastBusValue = s.lastBusValue := rfl
@[simp] theorem finished_out (op : Byte) (p : MicroProgram) (s : State) :
    (finished op p s).out = s.out := rfl
@[simp] theorem finished_idleBusValue (op : Byte) (p : MicroProgram) (s : State) :
    (finished op p s).idleBusValue = s.idleBusValue := rfl

/-! ### leaves -/

@[simp] theorem leaves_a (op : Byte) (p : MicroProgram) (s : State) :
    (leaves op p s).a = s.a := rfl
@[simp] theorem leaves_b (op : Byte) (p : MicroProgram) (s : State) :
    (leaves op p s).b = s.b := rfl
@[simp] theorem leaves_x (op : Byte) (p : MicroProgram) (s : State) :
    (leaves op p s).x = s.x := rfl
@[simp] theorem leaves_pc (op : Byte) (p : MicroProgram) (s : State) :
    (leaves op p s).pc = s.pc := rfl
@[simp] theorem leaves_sp (op : Byte) (p : MicroProgram) (s : State) :
    (leaves op p s).sp = s.sp := rfl
@[simp] theorem leaves_ir (op : Byte) (p : MicroProgram) (s : State) :
    (leaves op p s).ir = op := rfl
@[simp] theorem leaves_opd (op : Byte) (p : MicroProgram) (s : State) :
    (leaves op p s).opd = s.opd := rfl
@[simp] theorem leaves_mar (op : Byte) (p : MicroProgram) (s : State) :
    (leaves op p s).mar = s.mar := rfl
@[simp] theorem leaves_alu (op : Byte) (p : MicroProgram) (s : State) :
    (leaves op p s).alu = s.a + s.x := rfl
@[simp] theorem leaves_flg (op : Byte) (p : MicroProgram) (s : State) :
    (leaves op p s).flg = s.flg := rfl
@[simp] theorem leaves_mem (op : Byte) (p : MicroProgram) (s : State) :
    (leaves op p s).mem = s.mem := rfl
@[simp] theorem leaves_busValue (op : Byte) (p : MicroProgram) (s : State) :
    (leaves op p s).busValue = s.busValue := rfl
@[simp] theorem leaves_busHasValue (op : Byte) (p : MicroProgram) (s : State) :
    (leaves op p s).busHasValue = s.busHasValue := rfl
@[simp] theorem leaves_pending (op : Byte) (p : MicroProgram) (s : State) :
    (leaves op p s).pending = s.pending := rfl
@[simp] theorem leaves_txList (op : Byte) (p : MicroProgram) (s : State) :
    (leaves op p s).txList = s.txList := rfl
@[simp] theorem leaves_rxList (op : Byte) (p : MicroProgram) (s : State) :
    (leaves op p s).rxList = s.rxList := rfl
@[simp] theorem leaves_microCounter (op : Byte) (p : MicroProgram) (s : State) :
    (leaves op p s).microCounter = 0 := rfl
@[simp] theorem leaves_halted (op : Byte) (p : MicroProgram) (s : State) :
    (leaves op p s).halted = s.halted := rfl
@[simp] theorem leaves_activeWord (op : Byte) (p : MicroProgram) (s : State) :
    (leaves op p s).activeWord = p.getLast?.getD 0#32 := rfl
@[simp] theorem leaves_microProgram (op : Byte) (p : MicroProgram) (s : State) :
    (leaves op p s).microProgram = p := rfl
@[simp] theorem leaves_aluOp (op : Byte) (p : MicroProgram) (s : State) :
    (leaves op p s).aluOp = s.aluOp := rfl
@[simp] theorem leaves_aluFlags (op : Byte) (p : MicroProgram) (s : State) :
    (leaves op p s).aluFlags = aluFlagResult .add s.a s.x := rfl
@[simp] theorem leaves_flagLatch (op : Byte) (p : MicroProgram) (s : State) :
    (leaves op p s).flagLatch = s.flagLatch := rfl
@[simp] theorem leaves_lastBusValue (op : Byte) (p : MicroProgram) (s : State) :
    (leaves op p s).lastBusValue = s.lastBusValue := rfl
@[simp] theorem leaves_out (op : Byte) (p : MicroProgram) (s : State) :
    (leaves op p s).out = s.out := rfl
@[simp] theorem leaves_idleBusValue (op : Byte) (p : MicroProgram) (s : State) :
    (leaves op p s).idleBusValue = s.idleBusValue := rfl

/-! ### computed -/

@[simp] theorem computed_a (op : Byte) (p : MicroProgram) (o : AluOp) (a x : Byte) (s : State) :
    (computed op p o a x s).a = aluResult o a x := rfl
@[simp] theorem computed_b (op : Byte) (p : MicroProgram) (o : AluOp) (a x : Byte) (s : State) :
    (computed op p o a x s).b = s.b := rfl
@[simp] theorem computed_x (op : Byte) (p : MicroProgram) (o : AluOp) (a x : Byte) (s : State) :
    (computed op p o a x s).x = s.x := rfl
@[simp] theorem computed_pc (op : Byte) (p : MicroProgram) (o : AluOp) (a x : Byte) (s : State) :
    (computed op p o a x s).pc = s.pc := rfl
@[simp] theorem computed_sp (op : Byte) (p : MicroProgram) (o : AluOp) (a x : Byte) (s : State) :
    (computed op p o a x s).sp = s.sp := rfl
@[simp] theorem computed_ir (op : Byte) (p : MicroProgram) (o : AluOp) (a x : Byte) (s : State) :
    (computed op p o a x s).ir = op := rfl
@[simp] theorem computed_opd (op : Byte) (p : MicroProgram) (o : AluOp) (a x : Byte) (s : State) :
    (computed op p o a x s).opd = s.opd := rfl
@[simp] theorem computed_mar (op : Byte) (p : MicroProgram) (o : AluOp) (a x : Byte) (s : State) :
    (computed op p o a x s).mar = s.mar := rfl
@[simp] theorem computed_alu (op : Byte) (p : MicroProgram) (o : AluOp) (a x : Byte) (s : State) :
    (computed op p o a x s).alu = aluResult o a x := rfl
@[simp] theorem computed_flg (op : Byte) (p : MicroProgram) (o : AluOp) (a x : Byte) (s : State) :
    (computed op p o a x s).flg = flagByte (aluFlagResult o a x) := rfl
@[simp] theorem computed_mem (op : Byte) (p : MicroProgram) (o : AluOp) (a x : Byte) (s : State) :
    (computed op p o a x s).mem = s.mem := rfl
@[simp] theorem computed_busValue (op : Byte) (p : MicroProgram) (o : AluOp) (a x : Byte) (s : State) :
    (computed op p o a x s).busValue = s.busValue := rfl
@[simp] theorem computed_busHasValue (op : Byte) (p : MicroProgram) (o : AluOp) (a x : Byte) (s : State) :
    (computed op p o a x s).busHasValue = s.busHasValue := rfl
@[simp] theorem computed_pending (op : Byte) (p : MicroProgram) (o : AluOp) (a x : Byte) (s : State) :
    (computed op p o a x s).pending = s.pending := rfl
@[simp] theorem computed_txList (op : Byte) (p : MicroProgram) (o : AluOp) (a x : Byte) (s : State) :
    (computed op p o a x s).txList = s.txList := rfl
@[simp] theorem computed_rxList (op : Byte) (p : MicroProgram) (o : AluOp) (a x : Byte) (s : State) :
    (computed op p o a x s).rxList = s.rxList := rfl
@[simp] theorem computed_microCounter (op : Byte) (p : MicroProgram) (o : AluOp) (a x : Byte) (s : State) :
    (computed op p o a x s).microCounter = 0 := rfl
@[simp] theorem computed_halted (op : Byte) (p : MicroProgram) (o : AluOp) (a x : Byte) (s : State) :
    (computed op p o a x s).halted = s.halted := rfl
@[simp] theorem computed_activeWord (op : Byte) (p : MicroProgram) (o : AluOp) (a x : Byte) (s : State) :
    (computed op p o a x s).activeWord = p.getLast?.getD 0#32 := rfl
@[simp] theorem computed_microProgram (op : Byte) (p : MicroProgram) (o : AluOp) (a x : Byte) (s : State) :
    (computed op p o a x s).microProgram = p := rfl
@[simp] theorem computed_aluOp (op : Byte) (p : MicroProgram) (o : AluOp) (a x : Byte) (s : State) :
    (computed op p o a x s).aluOp = s.aluOp := rfl
@[simp] theorem computed_aluFlags (op : Byte) (p : MicroProgram) (o : AluOp) (a x : Byte) (s : State) :
    (computed op p o a x s).aluFlags = aluFlagResult o a x := rfl
@[simp] theorem computed_flagLatch (op : Byte) (p : MicroProgram) (o : AluOp) (a x : Byte) (s : State) :
    (computed op p o a x s).flagLatch = s.flagLatch := rfl
@[simp] theorem computed_lastBusValue (op : Byte) (p : MicroProgram) (o : AluOp) (a x : Byte) (s : State) :
    (computed op p o a x s).lastBusValue = aluResult o a x := rfl
@[simp] theorem computed_out (op : Byte) (p : MicroProgram) (o : AluOp) (a x : Byte) (s : State) :
    (computed op p o a x s).out = s.out := rfl
@[simp] theorem computed_idleBusValue (op : Byte) (p : MicroProgram) (o : AluOp) (a x : Byte) (s : State) :
    (computed op p o a x s).idleBusValue = s.idleBusValue := rfl

/-! ### immediateEffects: PC, SP, X and the ALU operation only -/

@[simp] theorem immediateEffects_a (w : CtrlWord) (s : State) : (immediateEffects w s).a = s.a := by
  simp only [immediateEffects, immediateRegs]; split_ifs <;> rfl
@[simp] theorem immediateEffects_b (w : CtrlWord) (s : State) : (immediateEffects w s).b = s.b := by
  simp only [immediateEffects, immediateRegs]; split_ifs <;> rfl
@[simp] theorem immediateEffects_ir (w : CtrlWord) (s : State) : (immediateEffects w s).ir = s.ir := by
  simp only [immediateEffects, immediateRegs]; split_ifs <;> rfl
@[simp] theorem immediateEffects_opd (w : CtrlWord) (s : State) : (immediateEffects w s).opd = s.opd := by
  simp only [immediateEffects, immediateRegs]; split_ifs <;> rfl
@[simp] theorem immediateEffects_mar (w : CtrlWord) (s : State) : (immediateEffects w s).mar = s.mar := by
  simp only [immediateEffects, immediateRegs]; split_ifs <;> rfl
@[simp] theorem immediateEffects_alu (w : CtrlWord) (s : State) : (immediateEffects w s).alu = s.alu := by
  simp only [immediateEffects, immediateRegs]; split_ifs <;> rfl
@[simp] theorem immediateEffects_flg (w : CtrlWord) (s : State) : (immediateEffects w s).flg = s.flg := by
  simp only [immediateEffects, immediateRegs]; split_ifs <;> rfl
@[simp] theorem immediateEffects_mem (w : CtrlWord) (s : State) : (immediateEffects w s).mem = s.mem := by
  simp only [immediateEffects, immediateRegs]; split_ifs <;> rfl
@[simp] theorem immediateEffects_busValue (w : CtrlWord) (s : State) : (immediateEffects w s).busValue = s.busValue := by
  simp only [immediateEffects, immediateRegs]; split_ifs <;> rfl
@[simp] theorem immediateEffects_busHasValue (w : CtrlWord) (s : State) : (immediateEffects w s).busHasValue = s.busHasValue := by
  simp only [immediateEffects, immediateRegs]; split_ifs <;> rfl
@[simp] theorem immediateEffects_pending (w : CtrlWord) (s : State) : (immediateEffects w s).pending = s.pending := by
  simp only [immediateEffects, immediateRegs]; split_ifs <;> rfl
@[simp] theorem immediateEffects_txList (w : CtrlWord) (s : State) : (immediateEffects w s).txList = s.txList := by
  simp only [immediateEffects, immediateRegs]; split_ifs <;> rfl
@[simp] theorem immediateEffects_rxList (w : CtrlWord) (s : State) : (immediateEffects w s).rxList = s.rxList := by
  simp only [immediateEffects, immediateRegs]; split_ifs <;> rfl
@[simp] theorem immediateEffects_microCounter (w : CtrlWord) (s : State) : (immediateEffects w s).microCounter = s.microCounter := by
  simp only [immediateEffects, immediateRegs]; split_ifs <;> rfl
@[simp] theorem immediateEffects_halted (w : CtrlWord) (s : State) : (immediateEffects w s).halted = s.halted := by
  simp only [immediateEffects, immediateRegs]; split_ifs <;> rfl
@[simp] theorem immediateEffects_activeWord (w : CtrlWord) (s : State) : (immediateEffects w s).activeWord = s.activeWord := by
  simp only [immediateEffects, immediateRegs]; split_ifs <;> rfl
@[simp] theorem immediateEffects_microProgram (w : CtrlWord) (s : State) : (immediateEffects w s).microProgram = s.microProgram := by
  simp only [immediateEffects, immediateRegs]; split_ifs <;> rfl
@[simp] theorem immediateEffects_aluFlags (w : CtrlWord) (s : State) : (immediateEffects w s).aluFlags = s.aluFlags := by
  simp only [immediateEffects, immediateRegs]; split_ifs <;> rfl
@[simp] theorem immediateEffects_flagLatch (w : CtrlWord) (s : State) : (immediateEffects w s).flagLatch = s.flagLatch := by
  simp only [immediateEffects, immediateRegs]; split_ifs <;> rfl
@[simp] theorem immediateEffects_lastBusValue (w : CtrlWord) (s : State) : (immediateEffects w s).lastBusValue = s.lastBusValue := by
  simp only [immediateEffects, immediateRegs]; split_ifs <;> rfl
@[simp] theorem immediateEffects_out (w : CtrlWord) (s : State) : (immediateEffects w s).out = s.out := by
  simp only [immediateEffects, immediateRegs]; split_ifs <;> rfl
@[simp] theorem immediateEffects_idleBusValue (w : CtrlWord) (s : State) : (immediateEffects w s).idleBusValue = s.idleBusValue := by
  simp only [immediateEffects, immediateRegs]; split_ifs <;> rfl

@[simp] theorem immediateEffects_aluOp (w : CtrlWord) (s : State) :
    (immediateEffects w s).aluOp = selectedOp w s.aluOp := by
  simp only [immediateEffects, immediateRegs]; split_ifs <;> rfl

/-! ### Reading registers -/

theorem getReg_setReg (s : State) (r q : Reg) (v : Byte) :
    getReg (setReg s r v) q = if q = r then v else getReg s q := by
  cases r <;> cases q <;> rfl

end Sys2Proof.Machine
end

