-- ==== Sys2Proof/Laws/Memory.lean ====
section
/-! SUPPORT. The laws of the memory: read after write, and that every memory operation keeps the canonical form. -/

namespace Sys2Proof.Machine

/-- A canonical memory that starts at `low` lists nothing below `low`. -/
theorem readCell_below {low addr : Nat} {m : Memory} (h : canonicalFrom low m = true) (hlt : addr < low) :
    readCell m addr = unlistedByte := by
  induction m generalizing low with
  | nil => rfl
  | cons cell rest ih =>
    obtain ⟨k, v⟩ := cell
    simp only [canonicalFrom, Bool.and_eq_true, decide_eq_true_eq] at h
    have hne : ¬ k = addr := by omega
    simpa [readCell, hne] using ih h.2 (by omega)

theorem canonicalFrom_mono {low low' : Nat} {m : Memory} (h : canonicalFrom low m = true) (hle : low' ≤ low) :
    canonicalFrom low' m = true := by
  cases m with
  | nil => rfl
  | cons cell rest =>
    obtain ⟨k, v⟩ := cell
    simp only [canonicalFrom, Bool.and_eq_true, decide_eq_true_eq] at h ⊢
    exact ⟨⟨⟨by omega, h.1.1.2⟩, h.1.2⟩, h.2⟩

/-- A write keeps the canonical form. -/
theorem canonicalFrom_writeCell {low addr : Nat} {m : Memory} {v : Byte} (h : canonicalFrom low m = true)
    (hlow : low ≤ addr) (haddr : addr < memSize) : canonicalFrom low (writeCell m addr v) = true := by
  induction m generalizing low with
  | nil =>
    by_cases hv : v = unlistedByte <;> simp [writeCell, hv, canonicalFrom, hlow, haddr]
  | cons cell rest ih =>
    obtain ⟨k, u⟩ := cell
    simp only [canonicalFrom, Bool.and_eq_true, decide_eq_true_eq] at h
    obtain ⟨⟨⟨hlk, hks⟩, hu⟩, hrest⟩ := h
    unfold writeCell
    split_ifs with h1 h2 h3 h4
    · simp [canonicalFrom, hlk, hks, hu, hrest]
    · simp [canonicalFrom, hlow, haddr, h2, hks, hu, hrest, Nat.succ_le_of_lt h1]
    · exact canonicalFrom_mono hrest (by omega)
    · subst h3; simp [canonicalFrom, hlk, hks, h4, hrest]
    · simp only [canonicalFrom, Bool.and_eq_true, decide_eq_true_eq]
      exact ⟨⟨⟨hlk, hks⟩, hu⟩, ih hrest (by omega)⟩

/-- Reading the address just written. -/
theorem readCell_writeCell_same {low addr : Nat} {m : Memory} {v : Byte} (h : canonicalFrom low m = true) :
    readCell (writeCell m addr v) addr = v := by
  induction m generalizing low with
  | nil => by_cases hv : v = unlistedByte <;> simp [writeCell, hv, readCell]
  | cons cell rest ih =>
    obtain ⟨k, u⟩ := cell
    simp only [canonicalFrom, Bool.and_eq_true, decide_eq_true_eq] at h
    unfold writeCell
    split_ifs with h1 h2 h3 h4
    · have : ¬ k = addr := by omega
      simp [readCell, this, h2, readCell_below h.2 (show addr < k + 1 by omega)]
    · simp [readCell]
    · simp [h4, readCell_below h.2 (show addr < k + 1 by omega)]
    · simp [readCell]
    · have : ¬ k = addr := by omega
      simpa [readCell, this] using ih h.2

/-- Reading any other address. -/
theorem readCell_writeCell_other {addr other : Nat} {m : Memory} {v : Byte} (hne : other ≠ addr) :
    readCell (writeCell m addr v) other = readCell m other := by
  induction m with
  | nil =>
    by_cases hv : v = unlistedByte <;> simp [writeCell, hv, readCell, Ne.symm hne]
  | cons cell rest ih =>
    obtain ⟨k, u⟩ := cell
    unfold writeCell
    split_ifs with h1 h2 h3 h4
    · rfl
    · simp [readCell, Ne.symm hne]
    · subst h3; simp [readCell, Ne.symm hne]
    · subst h3; simp [readCell, Ne.symm hne]
    · simp [readCell, ih]

/-- All a byte write does to the readings: the written address reads the byte, every other reads as before. -/
theorem memRead_memWrite {m : Memory} (h : m.wf = true) (addr v other : Byte) :
    memRead (memWrite m addr v) other = if other = addr then v else memRead m other := by
  unfold memRead memWrite
  split_ifs with heq
  · subst heq; exact readCell_writeCell_same h
  · exact readCell_writeCell_other fun hc => heq (BitVec.eq_of_toNat_eq hc)

theorem memRead_memWrite_other {m : Memory} {addr v other : Byte} (hne : other ≠ addr) :
    memRead (memWrite m addr v) other = memRead m other :=
  readCell_writeCell_other fun hc => hne (BitVec.eq_of_toNat_eq hc)

/-- A byte write keeps the canonical form. -/
theorem memWrite_wf {m : Memory} (h : m.wf = true) (addr v : Byte) : (memWrite m addr v).wf = true :=
  canonicalFrom_writeCell h (Nat.zero_le _) addr.isLt

theorem write_wf {s : State} (h : s.mem.wf = true) (addr v : Byte) : (s.write addr v).mem.wf = true :=
  memWrite_wf h addr v

theorem storeBytes_wf {s : State} (h : s.mem.wf = true) (addr : Byte) (bytes : List Byte) :
    (storeBytes s addr bytes).mem.wf = true := by
  induction bytes generalizing s addr with
  | nil => exact h
  | cons v rest ih => exact ih (write_wf h addr v) _

/-- Placing an instruction where the next step fetches keeps the canonical form. -/
theorem withFetchWord_wf {s : State} (h : s.mem.wf = true) (nbits w : Nat) :
    (s.withFetchWord nbits w).mem.wf = true :=
  storeBytes_wf h s.pc (tableBytes nbits w)

/-- A receiving component keeps the canonical form. -/
theorem componentTake_wf {s : State} (h : s.mem.wf = true) (c : Component) (v : Byte) :
    (componentTake s c v).mem.wf = true := by
  cases c with
  | reg r => simpa [componentTake] using h
  | mem => exact memWrite_wf h _ _

/-- An image lists its non-zero bytes, in canonical form. -/
theorem canonicalFrom_imageFrom {low : Nat} {bytes : List Byte} (h : low + bytes.length ≤ memSize) :
    canonicalFrom low (imageFrom low bytes) = true := by
  induction bytes generalizing low with
  | nil => rfl
  | cons v rest ih =>
    simp only [List.length_cons] at h
    unfold imageFrom
    split_ifs with hv
    · exact canonicalFrom_mono (ih (by omega)) (by omega)
    · simp only [canonicalFrom, Bool.and_eq_true, decide_eq_true_eq]
      exact ⟨⟨⟨le_refl _, by omega⟩, hv⟩, ih (by omega)⟩

/-- A loaded image has the canonical form. -/
theorem imageFrom_wf {bytes : List Byte} (h : WellFormed.image bytes = true) : Memory.wf (imageFrom 0 bytes) = true :=
  canonicalFrom_imageFrom (by simpa [WellFormed.image] using le_of_eq (by simpa [WellFormed.image] using h))

/-- The memory of the reset state has the canonical form. -/
theorem reset_wf : State.reset.mem.wf = true := rfl

end Sys2Proof.Machine
end

