-- ==== Sys2Proof/Laws/Bus.lean ====
section
/-! SUPPORT. What each operation over the bus and the markings can do, said once (40_cycle R150 to R152). -/

namespace Sys2Proof.Machine

/-! ### Sequencing -/

@[simp] theorem andThen_next (s : State) (f : State → Result) : andThen (.next s) f = f s := rfl
@[simp] theorem andThen_fault (e : Fault) (f : State → Result) : andThen (.fault e) f = .fault e := rfl
@[simp] theorem andThen_refused (e : Refusal) (f : State → Result) : andThen (.refused e) f = .refused e := rfl

/-- A sequence answers a next state iff its first part does and then its second. -/
theorem andThen_eq_next {r : Result} {f : State → Result} {t : State} :
    andThen r f = .next t ↔ ∃ u, r = .next u ∧ f u = .next t := by
  cases r <;> simp [andThen]

/-- A sequence faults iff its first part does, or goes on and its second does. -/
theorem andThen_eq_fault {r : Result} {f : State → Result} {e : Fault} :
    andThen r f = .fault e ↔ r = .fault e ∨ ∃ u, r = .next u ∧ f u = .fault e := by
  cases r <;> simp [andThen]

/-- A sequence refuses iff its first part does, or goes on and its second does. -/
theorem andThen_eq_refused {r : Result} {f : State → Result} {e : Refusal} :
    andThen r f = .refused e ↔ r = .refused e ∨ ∃ u, r = .next u ∧ f u = .refused e := by
  cases r <;> simp [andThen]

theorem andThen_assoc (r : Result) (f g : State → Result) :
    andThen (andThen r f) g = andThen r fun s => andThen (f s) g := by
  cases r <;> rfl

/-! ### The bus -/

/-- All that transmitting can do (R150; 60_exceptions R312). -/
theorem busTransmit_eq (c : Component) (v : Byte) (s : State) :
    busTransmit c v s =
      if s.busHasValue = true then .fault (.busConflict c) else .next { s with busValue := v, busHasValue := true } := by
  rfl

/-- All that receiving can do (R150; 60_exceptions R313). -/
theorem busReceive_eq (who : BusReader) (s : State) :
    busReceive who s = if s.busHasValue = true then .next s else .fault (.busUnwritten who) := by
  rfl

/-! ### Markings -/

@[simp] theorem pendingOf_clear (c : Component) : pendingOf Markings.clear c = .none := by
  cases c with
  | reg r => cases r <;> rfl
  | mem => rfl

theorem pendingOf_setPending (m : Markings) (c d : Component) (p : PendingAction) :
    pendingOf (setPending m c p) d = if d = c then p else pendingOf m d := by
  cases c with
  | reg r => cases d with
    | reg q => cases r <;> cases q <;> rfl
    | mem => cases r <;> rfl
  | mem => cases d with
    | reg q => cases q <;> rfl
    | mem => rfl

/-- Two markings that agree at every component are equal. -/
theorem markings_ext {m m' : Markings} (h : ∀ c, pendingOf m c = pendingOf m' c) : m = m' := by
  obtain ⟨⟩ := m
  obtain ⟨⟩ := m'
  simp only [Markings.mk.injEq]
  exact ⟨h (.reg .a), h (.reg .b), h (.reg .x), h (.reg .pc), h (.reg .sp), h (.reg .ir), h (.reg .opd),
    h (.reg .mar), h (.reg .alu), h (.reg .flg), h .mem⟩

/-- Marks each component of a list the same way. -/
def setAll (m : Markings) (cs : List Component) (p : PendingAction) : Markings :=
  match cs with
  | [] => m
  | c :: rest => setAll (setPending m c p) rest p

theorem pendingOf_setAll (m : Markings) (cs : List Component) (p : PendingAction) (d : Component) :
    pendingOf (setAll m cs p) d = if d ∈ cs then p else pendingOf m d := by
  induction cs generalizing m with
  | nil => simp [setAll]
  | cons c rest ih =>
    rw [setAll, ih, pendingOf_setPending]
    by_cases h1 : d ∈ rest <;> by_cases h2 : d = c <;> simp [h1, h2]

/-- Whether a component may be marked to transmit at all (10_state R21; 60_exceptions R314). -/
def canTransmit (c : Component) : Bool :=
  match c with
  | .reg r => readable r
  | .mem => true

/-- All that marking a readable component to transmit does (40_cycle R151, R152). -/
theorem markTransmit_next {c : Component} (h : canTransmit c = true) (s : State) :
    markTransmit c s =
      .next { s with pending := setPending s.pending c .transmit, txList := s.txList ++ [c] } := by
  cases c with
  | reg r => simp only [canTransmit] at h; simp [markTransmit, h]
  | mem => rfl

/-- Marking a register that is not readable fails (60_exceptions R314). -/
theorem markTransmit_forbidden {r : Reg} (h : readable r = false) (s : State) :
    markTransmit (.reg r) s = .fault (.readForbidden r) := by
  simp [markTransmit, h]

theorem markTransmitters_next {cs : List Component} (h : ∀ c ∈ cs, canTransmit c = true) (s : State) :
    markTransmitters cs s =
      .next { s with pending := setAll s.pending cs .transmit, txList := s.txList ++ cs } := by
  induction cs generalizing s with
  | nil => simp [markTransmitters, setAll]
  | cons c rest ih =>
    rw [markTransmitters, markTransmit_next (h c (by simp)), andThen_next, ih fun d hd => h d (by simp [hd])]
    simp [setAll]

theorem markReceivers_eq (cs : List Component) (s : State) :
    markReceivers cs s = { s with pending := setAll s.pending cs .receive, rxList := s.rxList ++ cs } := by
  induction cs generalizing s with
  | nil => simp [markReceivers, setAll]
  | cons c rest ih => rw [markReceivers, ih]; simp [markReceive, setAll]

/-! ### Resolving -/

theorem resolve_none {c : Component} {s : State} (h : pendingOf s.pending c = .none) : resolve c s = .next s := by
  simp [resolve, h]

/-- A transmitter on an empty bus (40_cycle R141, R151). -/
theorem resolve_transmit {c : Component} {s : State} (h : pendingOf s.pending c = .transmit)
    (hb : s.busHasValue = false) :
    resolve c s = .next { s with
      busValue := componentValue s c, busHasValue := true, pending := setPending s.pending c .none } := by
  simp [resolve, h, busTransmit, hb, unmark]

/-- A transmitter on a bus that already has a value (60_exceptions R312). -/
theorem resolve_conflict {c : Component} {s : State} (h : pendingOf s.pending c = .transmit)
    (hb : s.busHasValue = true) : resolve c s = .fault (.busConflict c) := by
  simp [resolve, h, busTransmit, hb]

/-- A receiver takes the value on the bus (40_cycle R142, R151). -/
theorem resolve_receive {c : Component} {s : State} (h : pendingOf s.pending c = .receive)
    (hb : s.busHasValue = true) : resolve c s = .next (unmark c (componentTake s c s.busValue)) := by
  simp [resolve, h, busReceive, hb]

/-- A receiver on an empty bus (60_exceptions R313). -/
theorem resolve_unwritten {c : Component} {s : State} (h : pendingOf s.pending c = .receive)
    (hb : s.busHasValue = false) : resolve c s = .fault (.busUnwritten (.component c)) := by
  simp [resolve, h, busReceive, hb]

/-- Every component of a list takes the same byte, in order. -/
def takeAll (cs : List Component) (v : Byte) (s : State) : State :=
  match cs with
  | [] => s
  | c :: rest => takeAll rest v (componentTake s c v)

theorem takeAll_wf {s : State} (h : s.mem.wf = true) (cs : List Component) (v : Byte) :
    (takeAll cs v s).mem.wf = true := by
  induction cs generalizing s with
  | nil => exact h
  | cons c rest ih => exact ih (componentTake_wf h c v)

theorem componentTake_withPending (s : State) (c : Component) (v : Byte) (m : Markings) :
    componentTake { s with pending := m } c v = { componentTake s c v with pending := m } := by
  cases c with
  | reg r => cases r <;> rfl
  | mem => rfl

theorem takeAll_withPending (cs : List Component) (v : Byte) (s : State) (m : Markings) :
    takeAll cs v { s with pending := m } = { takeAll cs v s with pending := m } := by
  induction cs generalizing s with
  | nil => rfl
  | cons c rest ih => rw [takeAll, takeAll, componentTake_withPending, ih]

/-- All the receivers of a cycle take the value on the bus, and are unmarked (40_cycle R142). -/
theorem resolveAll_receivers {cs : List Component} {s : State} (hb : s.busHasValue = true)
    (hp : ∀ c ∈ cs, pendingOf s.pending c = .receive) (hd : cs.Nodup) :
    resolveAll cs s = .next { takeAll cs s.busValue s with pending := setAll s.pending cs .none } := by
  induction cs generalizing s with
  | nil => rfl
  | cons c rest ih =>
    rw [List.nodup_cons] at hd
    rw [resolveAll, resolve_receive (hp c (by simp)) hb, andThen_next, ih]
    · rw [show unmark c (componentTake s c s.busValue)
          = { componentTake s c s.busValue with pending := setPending s.pending c .none } by
        simp [unmark]]
      rw [takeAll_withPending]
      simp [setAll, takeAll]
    · simp [hb]
    · intro d hd'
      have hne : d ≠ c := fun h => hd.1 (h ▸ hd')
      simp [pendingOf_setPending, hne, hp d (by simp [hd'])]
    · exact hd.2

/-! ### The lines of a word -/

/-- The components a table's lines mark are taken up line by line (40_cycle R138). -/
theorem marked_cons (l : Line) (c : Component) (table : List (Line × Component)) (w : CtrlWord) :
    marked ((l, c) :: table) w = (if has l w = true then [c] else []) ++ marked table w := by
  by_cases h : has l w = true <;> simp [marked, h]

/-- A component is marked iff one of its lines is set. -/
theorem mem_marked {table : List (Line × Component)} {w : CtrlWord} {c : Component} :
    c ∈ marked table w ↔ ∃ l, (l, c) ∈ table ∧ has l w = true := by
  simp [marked]

/-- Only a component that may transmit has a transmit line (40_cycle R131). -/
theorem canTransmit_of_mem_transmitters {w : CtrlWord} {c : Component} (h : c ∈ transmitters w) :
    canTransmit c = true := by
  have lines : ∀ entry ∈ transmitLines, canTransmit entry.2 = true := by decide
  obtain ⟨l, hl, -⟩ := mem_marked.1 h
  exact lines _ hl

theorem receivers_nodup (w : CtrlWord) : (receivers w).Nodup := by
  have h : (receivers w).Sublist (receiveLines.map Prod.snd) := List.Sublist.map _ List.filter_sublist
  exact h.nodup (by decide)

theorem transmitters_nodup (w : CtrlWord) : (transmitters w).Nodup := by
  have h : (transmitters w).Sublist (transmitLines.map Prod.snd) := List.Sublist.map _ List.filter_sublist
  exact h.nodup (by decide)

/-- The receive and the transmit line of each component that has both (40_cycle R131). -/
def bothWays : List (Line × Line) :=
  [(.ai, .ao), (.bi, .bo), (.xi, .xo), (.pci, .pco), (.oi, .oo), (.mi, .mo)]

theorem bothWays_complete : ∀ sends ∈ transmitLines, ∀ takes ∈ receiveLines,
    takes.2 = sends.2 → (takes.1, sends.1) ∈ bothWays := by
  decide

theorem oneWayEach_eq (w : CtrlWord) :
    oneWayEach w = bothWays.all fun pair => !(has pair.1 w && has pair.2 w) := by
  simp [oneWayEach, bothWays, Bool.and_assoc]

/-- In a well-formed word no component is marked both ways (40_cycle R132 (c)). -/
theorem not_mem_receivers {w : CtrlWord} (hw : WellFormed.controlWord w = true) {c : Component}
    (h : c ∈ transmitters w) : c ∉ receivers w := by
  intro h'
  obtain ⟨sends, hsends, hs⟩ := mem_marked.1 h
  obtain ⟨takes, htakes, hs'⟩ := mem_marked.1 h'
  have apart : oneWayEach w = true := by
    simp only [WellFormed.controlWord, Bool.and_eq_true] at hw
    exact hw.1.1.2
  rw [oneWayEach_eq, List.all_eq_true] at apart
  simpa [hs, hs'] using apart _ (bothWays_complete _ hsends _ htakes rfl)

end Sys2Proof.Machine
end

