-- ==== Sys2Proof/Laws/Cycle.lean ====
section
/-! SUPPORT. What a decode step, an execute step and a cycle can do, said once (40_cycle R133 to R149). -/

namespace Sys2Proof.Machine

/-! ### The decode step -/

/-- The state after the marking and the immediate part of a decode step (40_cycle R137 to R140). -/
def decoded (w : CtrlWord) (s : State) : State :=
  computeAlu w (immediateEffects w { s with
    activeWord := w
    pending := setAll (setAll s.pending (transmitters w) .transmit) (receivers w) .receive
    txList := s.txList ++ transmitters w
    rxList := s.rxList ++ receivers w })

/-- A decode step with a well-formed word without the halt line. -/
theorem decodeWord_next {w : CtrlWord} (hw : WellFormed.controlWord w = true) (hh : has .hlt w = false) (s : State) :
    decodeWord w s = .next (decoded w s) := by
  simp [decodeWord, hw, hh, markTransmitters_next fun _ h => canTransmit_of_mem_transmitters h, markReceivers_eq,
    decoded]

/-- A decode step with the halt line: nothing is marked and nothing else happens (40_cycle R137; log 13). -/
theorem decodeWord_halt {w : CtrlWord} (hw : WellFormed.controlWord w = true) (hh : has .hlt w = true) (s : State) :
    decodeWord w s = .next { s with activeWord := w, halted := true } := by
  simp [decodeWord, hw, hh]

/-- A word without a meaning (40_cycle R132; log 13). -/
theorem decodeWord_refused {w : CtrlWord} (hw : WellFormed.controlWord w = false) (s : State) :
    decodeWord w s = .refused (.illFormedWord w) := by
  simp [decodeWord, hw]

@[simp] theorem decoded_mem (w : CtrlWord) (s : State) : (decoded w s).mem = s.mem := by simp [decoded]
@[simp] theorem decoded_flg (w : CtrlWord) (s : State) : (decoded w s).flg = s.flg := by simp [decoded]
@[simp] theorem decoded_mar (w : CtrlWord) (s : State) : (decoded w s).mar = s.mar := by simp [decoded]
@[simp] theorem decoded_ir (w : CtrlWord) (s : State) : (decoded w s).ir = s.ir := by simp [decoded]
@[simp] theorem decoded_opd (w : CtrlWord) (s : State) : (decoded w s).opd = s.opd := by simp [decoded]
@[simp] theorem decoded_a (w : CtrlWord) (s : State) : (decoded w s).a = s.a := by simp [decoded]
@[simp] theorem decoded_b (w : CtrlWord) (s : State) : (decoded w s).b = s.b := by simp [decoded]
@[simp] theorem decoded_busHasValue (w : CtrlWord) (s : State) : (decoded w s).busHasValue = s.busHasValue := by
  simp [decoded]
@[simp] theorem decoded_busValue (w : CtrlWord) (s : State) : (decoded w s).busValue = s.busValue := by
  simp [decoded]
@[simp] theorem decoded_halted (w : CtrlWord) (s : State) : (decoded w s).halted = s.halted := by simp [decoded]
@[simp] theorem decoded_microCounter (w : CtrlWord) (s : State) : (decoded w s).microCounter = s.microCounter := by
  simp [decoded]
@[simp] theorem decoded_microProgram (w : CtrlWord) (s : State) : (decoded w s).microProgram = s.microProgram := by
  simp [decoded]
@[simp] theorem decoded_out (w : CtrlWord) (s : State) : (decoded w s).out = s.out := by simp [decoded]
@[simp] theorem decoded_idleBusValue (w : CtrlWord) (s : State) : (decoded w s).idleBusValue = s.idleBusValue := by
  simp [decoded]
@[simp] theorem decoded_activeWord (w : CtrlWord) (s : State) : (decoded w s).activeWord = w := by simp [decoded]
@[simp] theorem decoded_flagLatch (w : CtrlWord) (s : State) : (decoded w s).flagLatch = has .alo w := by
  simp [decoded]
@[simp] theorem decoded_txList (w : CtrlWord) (s : State) : (decoded w s).txList = s.txList ++ transmitters w := by
  simp [decoded]
@[simp] theorem decoded_rxList (w : CtrlWord) (s : State) : (decoded w s).rxList = s.rxList ++ receivers w := by
  simp [decoded]
@[simp] theorem decoded_pending (w : CtrlWord) (s : State) :
    (decoded w s).pending = setAll (setAll s.pending (transmitters w) .transmit) (receivers w) .receive := by
  simp [decoded]

/-! ### The execute step -/

/-- The output of a cycle whose bus has a value (40_cycle R145). -/
def emit (s : State) : State :=
  if has .out s.activeWord then { s with out := s.out ++ [(outputSelector s.ir, s.busValue)] } else s

/-- The part of an execute step after the transfer and the output (40_cycle R146 to R148). -/
def closed (s : State) : State := advanceCounter (busClockReset (clockLatches s))

theorem output_next {s : State} (h : s.busHasValue = true ∨ has .out s.activeWord = false) :
    output s = .next (emit s) := by
  rcases h with h | h <;> by_cases ho : has .out s.activeWord = true <;> simp_all [output, emit, busReceive]

/-- `OUT` with nothing on the bus (60_exceptions R313). -/
theorem output_fault {s : State} (h : s.busHasValue = false) (ho : has .out s.activeWord = true) :
    output s = .fault (.busUnwritten .outLine) := by
  simp [output, ho, busReceive, h]

@[simp] theorem emit_mem (s : State) : (emit s).mem = s.mem := by unfold emit; split_ifs <;> rfl
@[simp] theorem emit_pending (s : State) : (emit s).pending = s.pending := by unfold emit; split_ifs <;> rfl
@[simp] theorem emit_txList (s : State) : (emit s).txList = s.txList := by unfold emit; split_ifs <;> rfl
@[simp] theorem emit_rxList (s : State) : (emit s).rxList = s.rxList := by unfold emit; split_ifs <;> rfl
@[simp] theorem emit_flg (s : State) : (emit s).flg = s.flg := by unfold emit; split_ifs <;> rfl
@[simp] theorem emit_flagLatch (s : State) : (emit s).flagLatch = s.flagLatch := by unfold emit; split_ifs <;> rfl
@[simp] theorem emit_aluFlags (s : State) : (emit s).aluFlags = s.aluFlags := by unfold emit; split_ifs <;> rfl
@[simp] theorem emit_activeWord (s : State) : (emit s).activeWord = s.activeWord := by unfold emit; split_ifs <;> rfl
@[simp] theorem emit_halted (s : State) : (emit s).halted = s.halted := by unfold emit; split_ifs <;> rfl
@[simp] theorem emit_lastBusValue (s : State) : (emit s).lastBusValue = s.lastBusValue := by
  unfold emit; split_ifs <;> rfl
@[simp] theorem emit_microCounter (s : State) : (emit s).microCounter = s.microCounter := by
  unfold emit; split_ifs <;> rfl
@[simp] theorem emit_microProgram (s : State) : (emit s).microProgram = s.microProgram := by
  unfold emit; split_ifs <;> rfl
@[simp] theorem emit_idleBusValue (s : State) : (emit s).idleBusValue = s.idleBusValue := by
  unfold emit; split_ifs <;> rfl

/-- All that the clocking leaves between cycles (40_cycle R146, R147). -/
theorem closed_atRest {s : State} (hp : s.pending = Markings.clear) (ht : s.txList = []) (hr : s.rxList = []) :
    (closed s).AtRest := by
  simp [closed, State.AtRest, hp, ht, hr]

/-- An execute step that goes on went through the transfer and the output. -/
theorem executeStep_eq_next {s t : State} :
    executeStep s = .next t ↔ ∃ u v, transfer s = .next u ∧ output (cacheBus u) = .next v ∧ t = closed v := by
  simp only [executeStep, andThen_eq_next, closed, Host.Outcome.next.injEq]
  constructor
  · rintro ⟨u, hu, v, hv, rfl⟩; exact ⟨u, v, hu, hv, rfl⟩
  · rintro ⟨u, v, hu, hv, rfl⟩; exact ⟨u, hu, v, hv, rfl⟩

/-- A transfer that goes on leaves no lists (40_cycle R143). -/
theorem transfer_eq_next {s t : State} :
    transfer s = .next t ↔
      ∃ u v, resolveAll s.txList s = .next u ∧ resolveAll u.rxList u = .next v ∧
        t = { v with txList := [], rxList := [] } := by
  simp only [transfer, andThen_eq_next, Host.Outcome.next.injEq]
  constructor
  · rintro ⟨u, hu, v, hv, rfl⟩; exact ⟨u, v, hu, hv, rfl⟩
  · rintro ⟨u, v, hu, hv, rfl⟩; exact ⟨u, hu, v, hv, rfl⟩

/-! ### Cycles -/

/-- Nothing is marked any more once every marked component is unmarked. -/
theorem setAll_cleared (txs rxs : List Component) :
    setAll (setAll (setAll (setAll Markings.clear txs .transmit) rxs .receive) txs .none) rxs .none
      = Markings.clear := by
  apply markings_ext
  intro c
  simp only [pendingOf_setAll, pendingOf_clear]
  split_ifs <;> rfl

/-- The state a decode step leaves, once its one transmitter has put its byte on the bus (40_cycle R141). -/
def transmitted (w : CtrlWord) (c : Component) (s : State) : State :=
  { decoded w s with busValue := componentValue (decoded w s) c, busHasValue := true }

/-- The state after the transfer of a cycle with the one transmitter `c` (40_cycle R142, R143). -/
def transferred (w : CtrlWord) (c : Component) (s : State) : State :=
  { takeAll (receivers w) (componentValue (decoded w s) c) (transmitted w c s) with
    pending := Markings.clear, txList := [], rxList := [] }

@[simp] theorem takeAll_busValue (cs : List Component) (v : Byte) (s : State) :
    (takeAll cs v s).busValue = s.busValue := by
  induction cs generalizing s with
  | nil => rfl
  | cons c rest ih => simp [takeAll, ih]

@[simp] theorem takeAll_busHasValue (cs : List Component) (v : Byte) (s : State) :
    (takeAll cs v s).busHasValue = s.busHasValue := by
  induction cs generalizing s with
  | nil => rfl
  | cons c rest ih => simp [takeAll, ih]

@[simp] theorem takeAll_rxList (cs : List Component) (v : Byte) (s : State) :
    (takeAll cs v s).rxList = s.rxList := by
  induction cs generalizing s with
  | nil => rfl
  | cons c rest ih => simp [takeAll, ih]

/-- All that a cycle with exactly one transmitter does, from a state between cycles (40_cycle R141 to R148). -/
theorem wordCycle_one {w : CtrlWord} {c : Component} {s : State} (hs : s.AtRest)
    (hw : WellFormed.controlWord w = true) (hh : has .hlt w = false) (ht : transmitters w = [c]) :
    wordCycle w s = .next (closed (emit (cacheBus (transferred w c s)))) := by
  obtain ⟨hb, -, hp, htx, hrx, -, -⟩ := hs
  have hc : c ∉ receivers w := not_mem_receivers hw (by simp [ht])
  have htr : transfer (decoded w s) = .next (transferred w c s) := by
    have h1 : pendingOf (decoded w s).pending c = .transmit := by
      simp [pendingOf_setAll, hc, ht]
    have h2 : setPending (decoded w s).pending c .none = setAll Markings.clear (receivers w) .receive := by
      apply markings_ext
      intro d
      by_cases hd : d = c
      · simp [pendingOf_setPending, pendingOf_setAll, hd, hc]
      · simp [pendingOf_setPending, pendingOf_setAll, hd, ht, hp]
    have h3 : setAll (setAll Markings.clear (receivers w) .receive) (receivers w) .none = Markings.clear := by
      apply markings_ext; intro d; simp only [pendingOf_setAll, pendingOf_clear]; split_ifs <;> rfl
    have h4 : resolveAll (decoded w s).txList (decoded w s)
        = .next { transmitted w c s with pending := setAll Markings.clear (receivers w) .receive } := by
      simp only [decoded_txList, htx, ht, List.nil_append, resolveAll]
      rw [resolve_transmit h1 (by simp [hb]), andThen_next, h2]
      rfl
    have h5 : (transmitted w c s).rxList = receivers w := by simp [transmitted, hrx]
    rw [transfer, h4, andThen_next]
    change andThen (resolveAll (transmitted w c s).rxList _) _ = _
    rw [h5, resolveAll_receivers rfl (fun d hd => by simp [pendingOf_setAll, hd]) (receivers_nodup w), andThen_next]
    rw [takeAll_withPending]
    simp only [transferred, h3]
    rfl
  rw [wordCycle, decodeWord_next hw hh, andThen_next, executeStep_eq_next]
  refine ⟨_, _, htr, output_next (Or.inl ?_), rfl⟩
  simp [cacheBus, transferred, transmitted]

/-- The state after the transfer of a cycle that moves nothing. -/
theorem transfer_idle {s : State} (ht : s.txList = []) (hr : s.rxList = []) : transfer s = .next s := by
  simp only [transfer, ht, hr, resolveAll, andThen_next, Host.Outcome.next.injEq]
  cases s; simp_all

/-- All that a cycle with no transmitter, no receiver and no output does. -/
theorem wordCycle_idle {w : CtrlWord} {s : State} (hs : s.AtRest) (hw : WellFormed.controlWord w = true)
    (hh : has .hlt w = false) (ht : transmitters w = []) (hr : receivers w = []) (ho : has .out w = false) :
    wordCycle w s = .next (closed (cacheBus (decoded w s))) := by
  obtain ⟨-, -, -, htx, hrx, -, -⟩ := hs
  rw [wordCycle, decodeWord_next hw hh, andThen_next, executeStep_eq_next]
  refine ⟨_, _, transfer_idle (by simp [htx, ht]) (by simp [hrx, hr]), output_next (Or.inr ?_), ?_⟩
  · simpa using ho
  · simp [emit, ho]

/-- All that a cycle with the halt line does (40_cycle R137, R149). -/
theorem wordCycle_halt {w : CtrlWord} {s : State} (hs : s.AtRest) (hw : WellFormed.controlWord w = true)
    (hh : has .hlt w = true) (ho : has .out w = false) :
    wordCycle w s = .next (closed (cacheBus { s with activeWord := w, halted := true })) := by
  obtain ⟨-, -, -, htx, hrx, -, -⟩ := hs
  rw [wordCycle, decodeWord_halt hw hh, andThen_next, executeStep_eq_next]
  refine ⟨_, _, transfer_idle (by simp [htx]) (by simp [hrx]), output_next (Or.inr ?_), ?_⟩
  · simpa using ho
  · simp [emit, ho]

/-- A word of a micro-program has one transmitter, or moves nothing (60_exceptions R320). -/
theorem romWord_cases {w : CtrlWord} (h : WellFormed.romWord w = true) :
    WellFormed.controlWord w = true ∧
      ((∃ c, transmitters w = [c]) ∨ (transmitters w = [] ∧ receivers w = [] ∧ has .out w = false)) := by
  simp only [WellFormed.romWord, Bool.and_eq_true, decide_eq_true_eq] at h
  obtain ⟨⟨hw, hlen⟩, hrest⟩ := h
  refine ⟨hw, ?_⟩
  rcases htx : transmitters w with _ | ⟨c, _ | ⟨d, l⟩⟩
  · right; simpa [htx] using hrest
  · exact Or.inl ⟨c, rfl⟩
  · rw [htx] at hlen; simp at hlen

/-! ### Sequences of cycles -/

theorem runWords_nil (s : State) : runWords [] s = .next s := rfl
theorem runWords_cons (w : CtrlWord) (ws : List CtrlWord) (s : State) :
    runWords (w :: ws) s = andThen (wordCycle w s) (runWords ws) := rfl

theorem runWords_append (ws ws' : List CtrlWord) (s : State) :
    runWords (ws ++ ws') s = andThen (runWords ws s) (runWords ws') := by
  induction ws generalizing s with
  | nil => rfl
  | cons w rest ih =>
    simp only [List.cons_append, runWords_cons, andThen_assoc]
    cases wordCycle w s <;> simp [andThen, ih]

/-- A cycle of a machine that is not halted, by the word its decode step chooses (40_cycle R135). -/
theorem cycle_chosen {s : State} {w : CtrlWord} {p : MicroProgram} (hh : s.halted = false)
    (hc : chooseWord s = some (w, p)) : cycle s = wordCycle w { s with microProgram := p } := by
  simp [cycle, decodeStep, hh, hc, wordCycle]

/-- A cycle of a halted machine is its execute step (40_cycle R134, R149). -/
theorem cycle_halted {s : State} (hh : s.halted = true) : cycle s = executeStep s := by
  simp [cycle, decodeStep, hh]

end Sys2Proof.Machine
end

