-- ==== Sys2Proof/Laws/PerInstr.lean ====
section
/-! SUPPORT. Statements made about every instruction, one lemma per constructor. -/

namespace Sys2Proof.Laws.EncodedLength

/-- Every instruction is two bytes long, its opcode first (30_encoding R100, R101). -/
def Statement (i : Instr) : Prop := (encode i).length = 2 ∧ (encode i).head? = some i.opcode

theorem noop : Statement .noop := ⟨rfl, rfl⟩
theorem halt : Statement .halt := ⟨rfl, rfl⟩
theorem unassigned02 : Statement .unassigned02 := ⟨rfl, rfl⟩
theorem unassigned03 : Statement .unassigned03 := ⟨rfl, rfl⟩
theorem unassigned04 : Statement .unassigned04 := ⟨rfl, rfl⟩
theorem unassigned05 : Statement .unassigned05 := ⟨rfl, rfl⟩
theorem unassigned06 : Statement .unassigned06 := ⟨rfl, rfl⟩
theorem unassigned07 : Statement .unassigned07 := ⟨rfl, rfl⟩
theorem unassigned08 : Statement .unassigned08 := ⟨rfl, rfl⟩
theorem unassigned09 : Statement .unassigned09 := ⟨rfl, rfl⟩
theorem unassigned0A : Statement .unassigned0A := ⟨rfl, rfl⟩
theorem unassigned0B : Statement .unassigned0B := ⟨rfl, rfl⟩
theorem unassigned0C : Statement .unassigned0C := ⟨rfl, rfl⟩
theorem unassigned0D : Statement .unassigned0D := ⟨rfl, rfl⟩
theorem unassigned0E : Statement .unassigned0E := ⟨rfl, rfl⟩
theorem unassigned0F : Statement .unassigned0F := ⟨rfl, rfl⟩
theorem loadLitA (n : Byte) : Statement (.loadLitA n) := ⟨rfl, rfl⟩
theorem loadLitB (n : Byte) : Statement (.loadLitB n) := ⟨rfl, rfl⟩
theorem loadMemA (n : Byte) : Statement (.loadMemA n) := ⟨rfl, rfl⟩
theorem loadMemB (n : Byte) : Statement (.loadMemB n) := ⟨rfl, rfl⟩
theorem unassigned14 : Statement .unassigned14 := ⟨rfl, rfl⟩
theorem unassigned15 : Statement .unassigned15 := ⟨rfl, rfl⟩
theorem unassigned16 : Statement .unassigned16 := ⟨rfl, rfl⟩
theorem unassigned17 : Statement .unassigned17 := ⟨rfl, rfl⟩
theorem unassigned18 : Statement .unassigned18 := ⟨rfl, rfl⟩
theorem unassigned19 : Statement .unassigned19 := ⟨rfl, rfl⟩
theorem unassigned1A : Statement .unassigned1A := ⟨rfl, rfl⟩
theorem unassigned1B : Statement .unassigned1B := ⟨rfl, rfl⟩
theorem unassigned1C : Statement .unassigned1C := ⟨rfl, rfl⟩
theorem unassigned1D : Statement .unassigned1D := ⟨rfl, rfl⟩
theorem unassigned1E : Statement .unassigned1E := ⟨rfl, rfl⟩
theorem unassigned1F : Statement .unassigned1F := ⟨rfl, rfl⟩
theorem storeA (n : Byte) : Statement (.storeA n) := ⟨rfl, rfl⟩
theorem storeB (n : Byte) : Statement (.storeB n) := ⟨rfl, rfl⟩
theorem unassigned22 : Statement .unassigned22 := ⟨rfl, rfl⟩
theorem moveAB : Statement .moveAB := ⟨rfl, rfl⟩
theorem moveAX : Statement .moveAX := ⟨rfl, rfl⟩
theorem moveBA : Statement .moveBA := ⟨rfl, rfl⟩
theorem moveBX : Statement .moveBX := ⟨rfl, rfl⟩
theorem moveXA : Statement .moveXA := ⟨rfl, rfl⟩
theorem moveXB : Statement .moveXB := ⟨rfl, rfl⟩
theorem swap : Statement .swap := ⟨rfl, rfl⟩
theorem unassigned2A : Statement .unassigned2A := ⟨rfl, rfl⟩
theorem unassigned2B : Statement .unassigned2B := ⟨rfl, rfl⟩
theorem unassigned2C : Statement .unassigned2C := ⟨rfl, rfl⟩
theorem unassigned2D : Statement .unassigned2D := ⟨rfl, rfl⟩
theorem unassigned2E : Statement .unassigned2E := ⟨rfl, rfl⟩
theorem unassigned2F : Statement .unassigned2F := ⟨rfl, rfl⟩
theorem addB : Statement .addB := ⟨rfl, rfl⟩
theorem addX : Statement .addX := ⟨rfl, rfl⟩
theorem addMemN (n : Byte) : Statement (.addMemN n) := ⟨rfl, rfl⟩
theorem addMemB : Statement .addMemB := ⟨rfl, rfl⟩
theorem addMemX : Statement .addMemX := ⟨rfl, rfl⟩
theorem unassigned35 : Statement .unassigned35 := ⟨rfl, rfl⟩
theorem unassigned36 : Statement .unassigned36 := ⟨rfl, rfl⟩
theorem unassigned37 : Statement .unassigned37 := ⟨rfl, rfl⟩
theorem unassigned38 : Statement .unassigned38 := ⟨rfl, rfl⟩
theorem unassigned39 : Statement .unassigned39 := ⟨rfl, rfl⟩
theorem unassigned3A : Statement .unassigned3A := ⟨rfl, rfl⟩
theorem unassigned3B : Statement .unassigned3B := ⟨rfl, rfl⟩
theorem unassigned3C : Statement .unassigned3C := ⟨rfl, rfl⟩
theorem unassigned3D : Statement .unassigned3D := ⟨rfl, rfl⟩
theorem unassigned3E : Statement .unassigned3E := ⟨rfl, rfl⟩
theorem unassigned3F : Statement .unassigned3F := ⟨rfl, rfl⟩
theorem subB : Statement .subB := ⟨rfl, rfl⟩
theorem subX : Statement .subX := ⟨rfl, rfl⟩
theorem subMemN (n : Byte) : Statement (.subMemN n) := ⟨rfl, rfl⟩
theorem subMemB : Statement .subMemB := ⟨rfl, rfl⟩
theorem subMemX : Statement .subMemX := ⟨rfl, rfl⟩
theorem unassigned45 : Statement .unassigned45 := ⟨rfl, rfl⟩
theorem unassigned46 : Statement .unassigned46 := ⟨rfl, rfl⟩
theorem unassigned47 : Statement .unassigned47 := ⟨rfl, rfl⟩
theorem unassigned48 : Statement .unassigned48 := ⟨rfl, rfl⟩
theorem unassigned49 : Statement .unassigned49 := ⟨rfl, rfl⟩
theorem unassigned4A : Statement .unassigned4A := ⟨rfl, rfl⟩
theorem unassigned4B : Statement .unassigned4B := ⟨rfl, rfl⟩
theorem unassigned4C : Statement .unassigned4C := ⟨rfl, rfl⟩
theorem unassigned4D : Statement .unassigned4D := ⟨rfl, rfl⟩
theorem unassigned4E : Statement .unassigned4E := ⟨rfl, rfl⟩
theorem unassigned4F : Statement .unassigned4F := ⟨rfl, rfl⟩
theorem orB : Statement .orB := ⟨rfl, rfl⟩
theorem orX : Statement .orX := ⟨rfl, rfl⟩
theorem orMemN (n : Byte) : Statement (.orMemN n) := ⟨rfl, rfl⟩
theorem orMemB : Statement .orMemB := ⟨rfl, rfl⟩
theorem orMemX : Statement .orMemX := ⟨rfl, rfl⟩
theorem unassigned55 : Statement .unassigned55 := ⟨rfl, rfl⟩
theorem unassigned56 : Statement .unassigned56 := ⟨rfl, rfl⟩
theorem unassigned57 : Statement .unassigned57 := ⟨rfl, rfl⟩
theorem unassigned58 : Statement .unassigned58 := ⟨rfl, rfl⟩
theorem unassigned59 : Statement .unassigned59 := ⟨rfl, rfl⟩
theorem unassigned5A : Statement .unassigned5A := ⟨rfl, rfl⟩
theorem unassigned5B : Statement .unassigned5B := ⟨rfl, rfl⟩
theorem unassigned5C : Statement .unassigned5C := ⟨rfl, rfl⟩
theorem unassigned5D : Statement .unassigned5D := ⟨rfl, rfl⟩
theorem unassigned5E : Statement .unassigned5E := ⟨rfl, rfl⟩
theorem unassigned5F : Statement .unassigned5F := ⟨rfl, rfl⟩
theorem xorB : Statement .xorB := ⟨rfl, rfl⟩
theorem xorX : Statement .xorX := ⟨rfl, rfl⟩
theorem xorMemN (n : Byte) : Statement (.xorMemN n) := ⟨rfl, rfl⟩
theorem xorMemB : Statement .xorMemB := ⟨rfl, rfl⟩
theorem xorMemX : Statement .xorMemX := ⟨rfl, rfl⟩
theorem unassigned65 : Statement .unassigned65 := ⟨rfl, rfl⟩
theorem unassigned66 : Statement .unassigned66 := ⟨rfl, rfl⟩
theorem unassigned67 : Statement .unassigned67 := ⟨rfl, rfl⟩
theorem unassigned68 : Statement .unassigned68 := ⟨rfl, rfl⟩
theorem unassigned69 : Statement .unassigned69 := ⟨rfl, rfl⟩
theorem unassigned6A : Statement .unassigned6A := ⟨rfl, rfl⟩
theorem unassigned6B : Statement .unassigned6B := ⟨rfl, rfl⟩
theorem unassigned6C : Statement .unassigned6C := ⟨rfl, rfl⟩
theorem unassigned6D : Statement .unassigned6D := ⟨rfl, rfl⟩
theorem unassigned6E : Statement .unassigned6E := ⟨rfl, rfl⟩
theorem unassigned6F : Statement .unassigned6F := ⟨rfl, rfl⟩
theorem andB : Statement .andB := ⟨rfl, rfl⟩
theorem andX : Statement .andX := ⟨rfl, rfl⟩
theorem andMemN (n : Byte) : Statement (.andMemN n) := ⟨rfl, rfl⟩
theorem andMemB : Statement .andMemB := ⟨rfl, rfl⟩
theorem andMemX : Statement .andMemX := ⟨rfl, rfl⟩
theorem unassigned75 : Statement .unassigned75 := ⟨rfl, rfl⟩
theorem unassigned76 : Statement .unassigned76 := ⟨rfl, rfl⟩
theorem unassigned77 : Statement .unassigned77 := ⟨rfl, rfl⟩
theorem unassigned78 : Statement .unassigned78 := ⟨rfl, rfl⟩
theorem unassigned79 : Statement .unassigned79 := ⟨rfl, rfl⟩
theorem unassigned7A : Statement .unassigned7A := ⟨rfl, rfl⟩
theorem unassigned7B : Statement .unassigned7B := ⟨rfl, rfl⟩
theorem unassigned7C : Statement .unassigned7C := ⟨rfl, rfl⟩
theorem unassigned7D : Statement .unassigned7D := ⟨rfl, rfl⟩
theorem unassigned7E : Statement .unassigned7E := ⟨rfl, rfl⟩
theorem unassigned7F : Statement .unassigned7F := ⟨rfl, rfl⟩
theorem unassigned80 : Statement .unassigned80 := ⟨rfl, rfl⟩
theorem notA : Statement .notA := ⟨rfl, rfl⟩
theorem bitsl : Statement .bitsl := ⟨rfl, rfl⟩
theorem bitsr : Statement .bitsr := ⟨rfl, rfl⟩
theorem inc : Statement .inc := ⟨rfl, rfl⟩
theorem dec : Statement .dec := ⟨rfl, rfl⟩
theorem unassigned86 : Statement .unassigned86 := ⟨rfl, rfl⟩
theorem unassigned87 : Statement .unassigned87 := ⟨rfl, rfl⟩
theorem unassigned88 : Statement .unassigned88 := ⟨rfl, rfl⟩
theorem unassigned89 : Statement .unassigned89 := ⟨rfl, rfl⟩
theorem unassigned8A : Statement .unassigned8A := ⟨rfl, rfl⟩
theorem unassigned8B : Statement .unassigned8B := ⟨rfl, rfl⟩
theorem unassigned8C : Statement .unassigned8C := ⟨rfl, rfl⟩
theorem unassigned8D : Statement .unassigned8D := ⟨rfl, rfl⟩
theorem unassigned8E : Statement .unassigned8E := ⟨rfl, rfl⟩
theorem unassigned8F : Statement .unassigned8F := ⟨rfl, rfl⟩
theorem outCmd (n : Byte) : Statement (.outCmd n) := ⟨rfl, rfl⟩
theorem outAddr (n : Byte) : Statement (.outAddr n) := ⟨rfl, rfl⟩
theorem outDat (n : Byte) : Statement (.outDat n) := ⟨rfl, rfl⟩
theorem outDatMem (n : Byte) : Statement (.outDatMem n) := ⟨rfl, rfl⟩
theorem unassigned94 : Statement .unassigned94 := ⟨rfl, rfl⟩
theorem unassigned95 : Statement .unassigned95 := ⟨rfl, rfl⟩
theorem unassigned96 : Statement .unassigned96 := ⟨rfl, rfl⟩
theorem unassigned97 : Statement .unassigned97 := ⟨rfl, rfl⟩
theorem unassigned98 : Statement .unassigned98 := ⟨rfl, rfl⟩
theorem unassigned99 : Statement .unassigned99 := ⟨rfl, rfl⟩
theorem unassigned9A : Statement .unassigned9A := ⟨rfl, rfl⟩
theorem unassigned9B : Statement .unassigned9B := ⟨rfl, rfl⟩
theorem unassigned9C : Statement .unassigned9C := ⟨rfl, rfl⟩
theorem unassigned9D : Statement .unassigned9D := ⟨rfl, rfl⟩
theorem unassigned9E : Statement .unassigned9E := ⟨rfl, rfl⟩
theorem unassigned9F : Statement .unassigned9F := ⟨rfl, rfl⟩
theorem jmp (n : Byte) : Statement (.jmp n) := ⟨rfl, rfl⟩
theorem jmpc (n : Byte) : Statement (.jmpc n) := ⟨rfl, rfl⟩
theorem jmpnc (n : Byte) : Statement (.jmpnc n) := ⟨rfl, rfl⟩
theorem jmpz (n : Byte) : Statement (.jmpz n) := ⟨rfl, rfl⟩
theorem jmpnz (n : Byte) : Statement (.jmpnz n) := ⟨rfl, rfl⟩
theorem jmpp (n : Byte) : Statement (.jmpp n) := ⟨rfl, rfl⟩
theorem jmpnp (n : Byte) : Statement (.jmpnp n) := ⟨rfl, rfl⟩
theorem call (n : Byte) : Statement (.call n) := ⟨rfl, rfl⟩
theorem ret : Statement .ret := ⟨rfl, rfl⟩
theorem unassignedA9 : Statement .unassignedA9 := ⟨rfl, rfl⟩
theorem unassignedAA : Statement .unassignedAA := ⟨rfl, rfl⟩
theorem unassignedAB : Statement .unassignedAB := ⟨rfl, rfl⟩
theorem unassignedAC : Statement .unassignedAC := ⟨rfl, rfl⟩
theorem unassignedAD : Statement .unassignedAD := ⟨rfl, rfl⟩
theorem unassignedAE : Statement .unassignedAE := ⟨rfl, rfl⟩
theorem unassignedAF : Statement .unassignedAF := ⟨rfl, rfl⟩
theorem pushA : Statement .pushA := ⟨rfl, rfl⟩
theorem pushB : Statement .pushB := ⟨rfl, rfl⟩
theorem popA : Statement .popA := ⟨rfl, rfl⟩
theorem popB : Statement .popB := ⟨rfl, rfl⟩
theorem stkrest : Statement .stkrest := ⟨rfl, rfl⟩
theorem unassignedB5 : Statement .unassignedB5 := ⟨rfl, rfl⟩
theorem unassignedB6 : Statement .unassignedB6 := ⟨rfl, rfl⟩
theorem unassignedB7 : Statement .unassignedB7 := ⟨rfl, rfl⟩
theorem unassignedB8 : Statement .unassignedB8 := ⟨rfl, rfl⟩
theorem unassignedB9 : Statement .unassignedB9 := ⟨rfl, rfl⟩
theorem unassignedBA : Statement .unassignedBA := ⟨rfl, rfl⟩
theorem unassignedBB : Statement .unassignedBB := ⟨rfl, rfl⟩
theorem unassignedBC : Statement .unassignedBC := ⟨rfl, rfl⟩
theorem unassignedBD : Statement .unassignedBD := ⟨rfl, rfl⟩
theorem unassignedBE : Statement .unassignedBE := ⟨rfl, rfl⟩
theorem unassignedBF : Statement .unassignedBF := ⟨rfl, rfl⟩
theorem unassignedC0 : Statement .unassignedC0 := ⟨rfl, rfl⟩
theorem unassignedC1 : Statement .unassignedC1 := ⟨rfl, rfl⟩
theorem unassignedC2 : Statement .unassignedC2 := ⟨rfl, rfl⟩
theorem unassignedC3 : Statement .unassignedC3 := ⟨rfl, rfl⟩
theorem unassignedC4 : Statement .unassignedC4 := ⟨rfl, rfl⟩
theorem unassignedC5 : Statement .unassignedC5 := ⟨rfl, rfl⟩
theorem unassignedC6 : Statement .unassignedC6 := ⟨rfl, rfl⟩
theorem unassignedC7 : Statement .unassignedC7 := ⟨rfl, rfl⟩
theorem unassignedC8 : Statement .unassignedC8 := ⟨rfl, rfl⟩
theorem unassignedC9 : Statement .unassignedC9 := ⟨rfl, rfl⟩
theorem unassignedCA : Statement .unassignedCA := ⟨rfl, rfl⟩
theorem unassignedCB : Statement .unassignedCB := ⟨rfl, rfl⟩
theorem unassignedCC : Statement .unassignedCC := ⟨rfl, rfl⟩
theorem unassignedCD : Statement .unassignedCD := ⟨rfl, rfl⟩
theorem unassignedCE : Statement .unassignedCE := ⟨rfl, rfl⟩
theorem unassignedCF : Statement .unassignedCF := ⟨rfl, rfl⟩
theorem unassignedD0 : Statement .unassignedD0 := ⟨rfl, rfl⟩
theorem unassignedD1 : Statement .unassignedD1 := ⟨rfl, rfl⟩
theorem unassignedD2 : Statement .unassignedD2 := ⟨rfl, rfl⟩
theorem unassignedD3 : Statement .unassignedD3 := ⟨rfl, rfl⟩
theorem unassignedD4 : Statement .unassignedD4 := ⟨rfl, rfl⟩
theorem unassignedD5 : Statement .unassignedD5 := ⟨rfl, rfl⟩
theorem unassignedD6 : Statement .unassignedD6 := ⟨rfl, rfl⟩
theorem unassignedD7 : Statement .unassignedD7 := ⟨rfl, rfl⟩
theorem unassignedD8 : Statement .unassignedD8 := ⟨rfl, rfl⟩
theorem unassignedD9 : Statement .unassignedD9 := ⟨rfl, rfl⟩
theorem unassignedDA : Statement .unassignedDA := ⟨rfl, rfl⟩
theorem unassignedDB : Statement .unassignedDB := ⟨rfl, rfl⟩
theorem unassignedDC : Statement .unassignedDC := ⟨rfl, rfl⟩
theorem unassignedDD : Statement .unassignedDD := ⟨rfl, rfl⟩
theorem unassignedDE : Statement .unassignedDE := ⟨rfl, rfl⟩
theorem unassignedDF : Statement .unassignedDF := ⟨rfl, rfl⟩
theorem unassignedE0 : Statement .unassignedE0 := ⟨rfl, rfl⟩
theorem unassignedE1 : Statement .unassignedE1 := ⟨rfl, rfl⟩
theorem unassignedE2 : Statement .unassignedE2 := ⟨rfl, rfl⟩
theorem unassignedE3 : Statement .unassignedE3 := ⟨rfl, rfl⟩
theorem unassignedE4 : Statement .unassignedE4 := ⟨rfl, rfl⟩
theorem unassignedE5 : Statement .unassignedE5 := ⟨rfl, rfl⟩
theorem unassignedE6 : Statement .unassignedE6 := ⟨rfl, rfl⟩
theorem unassignedE7 : Statement .unassignedE7 := ⟨rfl, rfl⟩
theorem unassignedE8 : Statement .unassignedE8 := ⟨rfl, rfl⟩
theorem unassignedE9 : Statement .unassignedE9 := ⟨rfl, rfl⟩
theorem unassignedEA : Statement .unassignedEA := ⟨rfl, rfl⟩
theorem unassignedEB : Statement .unassignedEB := ⟨rfl, rfl⟩
theorem unassignedEC : Statement .unassignedEC := ⟨rfl, rfl⟩
theorem unassignedED : Statement .unassignedED := ⟨rfl, rfl⟩
theorem unassignedEE : Statement .unassignedEE := ⟨rfl, rfl⟩
theorem unassignedEF : Statement .unassignedEF := ⟨rfl, rfl⟩
theorem unassignedF0 : Statement .unassignedF0 := ⟨rfl, rfl⟩
theorem unassignedF1 : Statement .unassignedF1 := ⟨rfl, rfl⟩
theorem unassignedF2 : Statement .unassignedF2 := ⟨rfl, rfl⟩
theorem unassignedF3 : Statement .unassignedF3 := ⟨rfl, rfl⟩
theorem unassignedF4 : Statement .unassignedF4 := ⟨rfl, rfl⟩
theorem unassignedF5 : Statement .unassignedF5 := ⟨rfl, rfl⟩
theorem unassignedF6 : Statement .unassignedF6 := ⟨rfl, rfl⟩
theorem unassignedF7 : Statement .unassignedF7 := ⟨rfl, rfl⟩
theorem unassignedF8 : Statement .unassignedF8 := ⟨rfl, rfl⟩
theorem unassignedF9 : Statement .unassignedF9 := ⟨rfl, rfl⟩
theorem unassignedFA : Statement .unassignedFA := ⟨rfl, rfl⟩
theorem unassignedFB : Statement .unassignedFB := ⟨rfl, rfl⟩
theorem unassignedFC : Statement .unassignedFC := ⟨rfl, rfl⟩
theorem unassignedFD : Statement .unassignedFD := ⟨rfl, rfl⟩
theorem unassignedFE : Statement .unassignedFE := ⟨rfl, rfl⟩
theorem unassignedFF : Statement .unassignedFF := ⟨rfl, rfl⟩

end Sys2Proof.Laws.EncodedLength
end

