-- ==== Sys2Proof/Laws/Run.lean ====
section
/-! SUPPORT. What the receivers of a cycle keep and take, which errors a cycle can raise, what the ROM's words look like,
and all that one cycle driven by such a word does to the sequencer (40_cycle R139 to R154; 60_exceptions R320). -/

namespace Sys2Proof.Machine

/-! ### What the receivers take and keep -/

/-- No line marks the flag register to receive (40_cycle R131). -/
theorem flg_not_mem_receivers (w : CtrlWord) : Component.reg .flg ∉ receivers w := by
  simp only [receivers, marked, List.mem_map, List.mem_filter, not_exists, not_and]
  rintro ⟨l, c⟩ ⟨hm, -⟩ rfl
  simp [receiveLines] at hm

/-- No line marks the ALU register to receive (40_cycle R131). -/
theorem alu_not_mem_receivers (w : CtrlWord) : Component.reg .alu ∉ receivers w := by
  simp only [receivers, marked, List.mem_map, List.mem_filter, not_exists, not_and]
  rintro ⟨l, c⟩ ⟨hm, -⟩ rfl
  simp [receiveLines] at hm

/-- Receiving changes nothing but registers and memory. -/
theorem takeAll_keeps (cs : List Component) (v : Byte) (s : State) :
    (takeAll cs v s).aluFlags = s.aluFlags ∧ (takeAll cs v s).flagLatch = s.flagLatch ∧
      (takeAll cs v s).halted = s.halted ∧ (takeAll cs v s).activeWord = s.activeWord ∧
      (takeAll cs v s).microProgram = s.microProgram ∧ (takeAll cs v s).microCounter = s.microCounter ∧
      (takeAll cs v s).out = s.out ∧ (takeAll cs v s).idleBusValue = s.idleBusValue := by
  induction cs generalizing s with
  | nil => simp [takeAll]
  | cons c rest ih => simpa [takeAll] using ih (componentTake s c v)

theorem getReg_withMem (s : State) (m : Memory) (r : Reg) : getReg { s with mem := m } r = getReg s r := by
  cases r <;> rfl

theorem getReg_componentTake (s : State) (c : Component) (v : Byte) (r : Reg) :
    getReg (componentTake s c v) r = if c = .reg r then v else getReg s r := by
  cases c with
  | reg q => simp only [componentTake, getReg_setReg, Component.reg.injEq, eq_comm]
  | mem => simp [componentTake, State.write, getReg_withMem]

/-- A register holds the byte afterwards iff it is among the receivers (40_cycle R142). -/
theorem getReg_takeAll (cs : List Component) (v : Byte) (s : State) (r : Reg) :
    getReg (takeAll cs v s) r = if .reg r ∈ cs then v else getReg s r := by
  induction cs generalizing s with
  | nil => simp [takeAll]
  | cons c rest ih =>
    rw [takeAll, ih, getReg_componentTake]
    by_cases h1 : Component.reg r ∈ rest <;> by_cases h2 : c = .reg r
    · simp [h1]
    · simp [h1]
    · subst h2; simp [h1]
    · simp [h1, h2, Ne.symm h2]

/-- The cell at MAR holds the byte afterwards iff the memory is among the receivers, which MAR is not then. -/
theorem takeAll_read (cs : List Component) (v : Byte) (s : State) (h : s.mem.wf = true)
    (hm : ¬(Component.reg .mar ∈ cs ∧ Component.mem ∈ cs)) (addr : Byte) :
    (takeAll cs v s).read addr = if .mem ∈ cs ∧ addr = s.mar then v else s.read addr := by
  induction cs generalizing s with
  | nil => simp [takeAll]
  | cons c rest ih =>
    rw [takeAll, ih (componentTake s c v) (componentTake_wf h c v) (by simp_all)]
    cases c with
    | reg q =>
      have e1 : (componentTake s (.reg q) v).read addr = s.read addr := by cases q <;> rfl
      by_cases hmem : Component.mem ∈ rest
      · have hq : q ≠ .mar := by rintro rfl; apply hm; simp [hmem]
        have e2 : (componentTake s (.reg q) v).mar = s.mar := by
          cases q <;> first | rfl | exact absurd rfl hq
        simp [e1, e2]
      · simp [hmem, e1]
    | mem =>
      have e1 : (componentTake s .mem v).read addr = if addr = s.mar then v else s.read addr :=
        memRead_memWrite h _ _ _
      have e2 : (componentTake s .mem v).mar = s.mar := rfl
      rw [e1, e2]
      by_cases h1 : addr = s.mar <;> simp [h1]

/-! ### Registers through the parts of a cycle -/

theorem getReg_closed {r : Reg} (h : r ≠ .flg) (s : State) : getReg (closed s) r = getReg s r := by
  cases r <;> first | rfl | exact absurd rfl h

theorem getReg_emit (s : State) (r : Reg) : getReg (emit s) r = getReg s r := by
  unfold emit; split_ifs <;> cases r <;> rfl

/-- X after the immediate effects (40_cycle R139). -/
theorem immediateEffects_x (w : CtrlWord) (s : State) :
    (immediateEffects w s).x = if has .x1 w then 1#8 else s.x := by
  simp only [immediateEffects, immediateRegs]; split_ifs <;> rfl

/-- PC after the immediate effects (40_cycle R139). -/
theorem immediateEffects_pc (w : CtrlWord) (s : State) :
    (immediateEffects w s).pc =
      let up := if has .pcp w then s.pc + 1#8 else s.pc
      if has .pcm w then up - 1#8 else up := by
  simp only [immediateEffects, immediateRegs]; split_ifs <;> rfl

/-- SP after the immediate effects (40_cycle R139). -/
theorem immediateEffects_sp (w : CtrlWord) (s : State) :
    (immediateEffects w s).sp =
      let up := if has .spp w then s.sp + 1#8 else s.sp
      if has .spr w then stackTop else if has .spm w then up - 1#8 else up := by
  simp only [immediateEffects, immediateRegs]; split_ifs <;> rfl

/-- The immediate effects write PC, SP, X and the selected operation, and nothing else (40_cycle R139). -/
theorem immediateEffects_eq (w : CtrlWord) (s : State) :
    immediateEffects w s = { s with
      pc := (immediateEffects w s).pc
      sp := (immediateEffects w s).sp
      x := (immediateEffects w s).x
      aluOp := selectedOp w s.aluOp } := by
  have eta : ∀ t : State, t.aluOp = selectedOp w s.aluOp →
      t.a = s.a → t.b = s.b → t.ir = s.ir → t.opd = s.opd →
      t.mar = s.mar → t.alu = s.alu → t.flg = s.flg → t.mem = s.mem →
      t.busValue = s.busValue → t.busHasValue = s.busHasValue → t.pending = s.pending → t.txList = s.txList →
      t.rxList = s.rxList → t.microCounter = s.microCounter → t.halted = s.halted → t.activeWord = s.activeWord →
      t.microProgram = s.microProgram → t.aluFlags = s.aluFlags → t.flagLatch = s.flagLatch → t.lastBusValue = s.lastBusValue →
      t.out = s.out → t.idleBusValue = s.idleBusValue →
      t = { s with pc := t.pc, sp := t.sp, x := t.x, aluOp := selectedOp w s.aluOp } := by
    rintro ⟨⟩
    intros
    simp_all
  apply eta <;> simp

theorem decoded_pc (w : CtrlWord) (s : State) : (decoded w s).pc = (afterDecode w s).pc := by
  simp only [decoded, afterDecode, computeAlu_pc, immediateEffects_pc]
theorem decoded_sp (w : CtrlWord) (s : State) : (decoded w s).sp = (afterDecode w s).sp := by
  simp only [decoded, afterDecode, computeAlu_sp, immediateEffects_sp]
theorem decoded_x (w : CtrlWord) (s : State) : (decoded w s).x = (afterDecode w s).x := by
  simp only [decoded, afterDecode, computeAlu_x, immediateEffects_x]

theorem decoded_alu (w : CtrlWord) (s : State) : (decoded w s).alu = (afterDecode w s).alu := by
  have h := decoded_x w s
  simp [decoded, afterDecode] at h ⊢
  rw [h]

/-- The flags that a decode step computes do not depend on the marking (40_cycle R140). -/
theorem decoded_aluFlags (w : CtrlWord) (s : State) : (decoded w s).aluFlags = (afterDecode w s).aluFlags := by
  have h := decoded_x w s
  simp [decoded, afterDecode] at h ⊢
  rw [h]

/-- The marking of a decode step changes no register (40_cycle R138). -/
theorem getReg_decoded (w : CtrlWord) (s : State) (r : Reg) :
    getReg (decoded w s) r = getReg (afterDecode w s) r := by
  cases r
  case x => exact decoded_x w s
  case pc => exact decoded_pc w s
  case sp => exact decoded_sp w s
  case alu => exact decoded_alu w s
  all_goals simp [getReg, afterDecode]

theorem componentValue_decoded (w : CtrlWord) (s : State) (c : Component) :
    componentValue (decoded w s) c = componentValue (afterDecode w s) c := by
  cases c with
  | reg r => exact getReg_decoded w s r
  | mem => simp [componentValue, State.read, afterDecode]

/-! ### Errors, and what resolving keeps -/

/-- The two errors the bus can raise. -/
def BusError (e : Fault) : Prop := (∃ c, e = .busConflict c) ∨ ∃ c, e = .busUnwritten c

theorem resolve_fault {c : Component} {s : State} {e : Fault} (h : resolve c s = .fault e) : BusError e := by
  unfold resolve at h
  split at h
  · cases h
  · simp only [busTransmit] at h; split_ifs at h <;> cases h; exact .inl ⟨_, rfl⟩
  · simp only [busReceive] at h; split_ifs at h <;> cases h; exact .inr ⟨_, rfl⟩

theorem resolveAll_fault {cs : List Component} {s : State} {e : Fault} (h : resolveAll cs s = .fault e) :
    BusError e := by
  induction cs generalizing s with
  | nil => cases h
  | cons c rest ih =>
    rw [resolveAll, andThen_eq_fault] at h
    rcases h with h | ⟨u, -, h⟩
    · exact resolve_fault h
    · exact ih h

theorem output_busError {s : State} {e : Fault} (h : output s = .fault e) : BusError e := by
  unfold output at h
  split_ifs at h
  rw [andThen_eq_fault] at h
  rcases h with h | ⟨_, -, h⟩
  · simp only [busReceive] at h
    split_ifs at h
    cases h
    exact .inr ⟨_, rfl⟩
  · cases h

theorem resolve_keeps {c : Component} {s t : State} (h : resolve c s = .next t) :
    t.activeWord = s.activeWord ∧ t.microCounter = s.microCounter ∧ t.rxList = s.rxList := by
  unfold resolve at h
  split at h
  · cases h; simp
  · simp only [busTransmit] at h; split_ifs at h <;> cases h; simp
  · simp only [busReceive] at h; split_ifs at h <;> cases h; simp

theorem resolveAll_keeps {cs : List Component} {s t : State} (h : resolveAll cs s = .next t) :
    t.activeWord = s.activeWord ∧ t.microCounter = s.microCounter ∧ t.rxList = s.rxList := by
  induction cs generalizing s with
  | nil => cases h; simp
  | cons c rest ih =>
    rw [resolveAll, andThen_eq_next] at h
    obtain ⟨u, h1, h2⟩ := h
    have h3 := resolve_keeps h1
    have h4 := ih h2
    simp_all

/-! ### What an error leaves (60_exceptions R318) -/

/-- Resolving that succeeds leaves no residue but its result. -/
theorem resolveResidue_of_next {cs : List Component} {s t : State} (h : resolveAll cs s = .next t) :
    resolveResidue cs s = t := by
  induction cs generalizing s with
  | nil => cases h; rfl
  | cons c rest ih =>
    rw [resolveAll, andThen_eq_next] at h
    obtain ⟨u, h1, h2⟩ := h
    simp only [resolveResidue, h1]
    exact ih h2

/-- A failing transmitter: no receiver is resolved (60_exceptions R319). -/
theorem executeResidue_transmitters {s : State} {e : Fault} (h : resolveAll s.txList s = .fault e) :
    executeResidue s = resolveResidue s.txList s := by
  simp [executeResidue, h]

/-- A failing receiver, or the output: all transmitters are resolved. -/
theorem executeResidue_receivers {s t : State} (h : resolveAll s.txList s = .next t) :
    executeResidue s = resolveResidue t.rxList t := by
  simp [executeResidue, h, resolveResidue_of_next h]

/-! ### The words of the fetch program and of the ROM -/

/-- A flag byte from its three flags. -/
def flagOf (z c p : Bool) : Byte := (if z then 1#8 else 0#8) ||| (if c then 2#8 else 0#8) ||| (if p then 4#8 else 0#8)

theorem rom_flagOf (ir flg : Byte) : rom ir flg = rom ir (flagOf (zeroFlag flg) (carryFlag flg) (parityFlag flg)) := by
  have h : ∀ z c p, zeroFlag (flagOf z c p) = z ∧ carryFlag (flagOf z c p) = c ∧ parityFlag (flagOf z c p) = p := by
    decide
  obtain ⟨h1, h2, h3⟩ := h (zeroFlag flg) (carryFlag flg) (parityFlag flg)
  simp only [rom, romJump, h1, h2, h3]

/-- A check of every micro-program is a check of 256 opcodes with eight flag bytes each. -/
theorem rom_all (P : MicroProgram → Bool)
    (h : ((List.range 256).all fun i => [true, false].all fun a => [true, false].all fun b => [true, false].all fun c =>
      P (rom (BitVec.ofNat 8 i) (flagOf a b c))) = true) (ir flg : Byte) : P (rom ir flg) = true := by
  rw [rom_flagOf]
  simp only [List.all_eq_true] at h
  have h' := h ir.toNat (List.mem_range.2 ir.isLt) (zeroFlag flg) (by cases zeroFlag flg <;> simp)
    (carryFlag flg) (by cases carryFlag flg <;> simp) (parityFlag flg) (by cases parityFlag flg <;> simp)
  simpa using h'

theorem fetchProgram_words :
    ∀ w ∈ fetchProgram, WellFormed.romWord w = true ∧ has .hlt w = false ∧ has .rst w = false := by
  have h : (fetchProgram.all fun w => WellFormed.romWord w && !has .hlt w && !has .rst w) = true := by rfl
  simpa [List.all_eq_true, and_assoc] using h

set_option maxRecDepth 100000 in
/-- Every word of the ROM is fit, and the only one with the halt line is `[HLT RST]`. -/
theorem rom_words (ir flg : Byte) :
    ∀ w ∈ rom ir flg, WellFormed.romWord w = true ∧ (has .hlt w = true → w = word [.hlt, .rst]) := by
  have h := rom_all (fun p => p.all fun w => WellFormed.romWord w && (!has .hlt w || decide (w = word [.hlt, .rst])))
    (by rfl) ir flg
  intro w hw
  simp only [List.all_eq_true] at h
  have h' := h w hw
  simp only [Bool.and_eq_true, Bool.or_eq_true, Bool.not_eq_true', decide_eq_true_eq] at h'
  refine ⟨h'.1, fun hh => ?_⟩
  rcases h'.2 with h2 | h2
  · simp [hh] at h2
  · exact h2

set_option maxRecDepth 100000 in
theorem rom_reset_last (ir flg : Byte) {k : Nat} {w : CtrlWord} (h : (rom ir flg)[k]? = some w) :
    has .rst w = true ↔ k + 1 = (rom ir flg).length := by
  have h1 := rom_all (fun p => (List.range p.length).all fun k =>
    match p[k]? with
    | some w => decide (has .rst w = true ↔ k + 1 = p.length)
    | none => true) (by rfl) ir flg
  simp only [List.all_eq_true] at h1
  have h2 := h1 k (List.mem_range.2 (List.getElem?_eq_some_iff.1 h).1)
  rw [h] at h2
  exact of_decide_eq_true h2

set_option maxRecDepth 100000 in
theorem rom_length (ir flg : Byte) : 1 ≤ (rom ir flg).length ∧ (rom ir flg).length ≤ 4 := by
  have h := rom_all (fun p => decide (1 ≤ p.length ∧ p.length ≤ 4)) (by rfl) ir flg
  simpa using h

/-! ### One cycle driven by a word of a micro-program -/

theorem flagByte_clean (f : BitVec 3) : flagByte f &&& 0xF8#8 = 0#8 := by revert f; decide

theorem closed_flg (s : State) : (closed s).flg = if s.flagLatch then flagByte s.aluFlags else s.flg := rfl
theorem closed_microCounter (s : State) :
    (closed s).microCounter = if has .rst s.activeWord then 0 else s.microCounter + 1 := rfl

/-- What a cycle driven by a fit word leaves in the sequencer, whatever it moves. -/
structure CyclePost (w : CtrlWord) (s t : State) : Prop where
  atRest : t.AtRest
  memory : s.mem.wf = true → t.mem.wf = true
  flags : s.FlagsClean → t.FlagsClean
  counter : t.microCounter = if has .rst w then 0 else s.microCounter + 1
  halted : t.halted = (has .hlt w || s.halted)
  active : t.activeWord = w
  program : t.microProgram = s.microProgram
  idle : t.idleBusValue = s.idleBusValue

/-- A cycle driven by a fit word succeeds (60_exceptions R320). -/
theorem wordCycle_post {w : CtrlWord} {s : State} (hs : s.AtRest) (hw : WellFormed.romWord w = true)
    (ho : has .hlt w = true → has .out w = false) : ∃ t, wordCycle w s = .next t ∧ CyclePost w s t := by
  obtain ⟨hc, h⟩ := romWord_cases hw
  by_cases hh : has .hlt w = true
  · refine ⟨_, wordCycle_halt hs hc hh (ho hh), ?_⟩
    obtain ⟨-, -, h3, h4, h5, -, h7⟩ := hs
    constructor
    · apply closed_atRest <;> simp [h3, h4, h5]
    · simp [closed]
    · intro hcl; simp only [State.FlagsClean, closed_flg]; simp [h7]; exact hcl
    · simp [closed_microCounter]; rfl
    · simp [closed, hh]
    · simp [closed]
    · simp [closed]
    · simp [closed]
  · have hh : has .hlt w = false := by simpa using hh
    have K := fun v u => takeAll_keeps (receivers w) v u
    rcases h with ⟨c, ht⟩ | ⟨ht, hr, hout⟩
    · refine ⟨_, wordCycle_one hs hc hh ht, ?_⟩
      constructor
      · apply closed_atRest <;> simp [transferred]
      · intro hwf
        have := takeAll_wf (s := transmitted w c s) (by simpa [transmitted] using hwf) (receivers w)
          (componentValue (decoded w s) c)
        simpa [closed, transferred] using this
      · intro hcl
        simp only [State.FlagsClean, closed_flg, emit_flg, emit_flagLatch, emit_aluFlags, cacheBus_flg,
          cacheBus_flagLatch, cacheBus_aluFlags]
        split_ifs
        · exact flagByte_clean _
        · have e := getReg_takeAll (receivers w) (componentValue (decoded w s) c) (transmitted w c s) .flg
          rw [if_neg (flg_not_mem_receivers w)] at e
          have e' : (transferred w c s).flg = s.flg := by simpa [transferred, getReg, transmitted] using e
          rw [e']; exact hcl
      · simp [closed_microCounter, transferred, K, transmitted]
      · simp [closed, transferred, K, transmitted, hh]
      · simp [closed, transferred, K, transmitted]
      · simp [closed, transferred, K, transmitted]
      · simp [closed, transferred, K, transmitted]
    · refine ⟨_, wordCycle_idle hs hc hh ht hr hout, ?_⟩
      obtain ⟨-, -, h3, h4, h5, -, -⟩ := hs
      constructor
      · apply closed_atRest <;> simp [ht, hr, setAll, h3, h4, h5]
      · simp [closed]
      · intro hcl
        simp only [State.FlagsClean, closed_flg, cacheBus_flg, cacheBus_flagLatch, cacheBus_aluFlags, decoded_flg]
        split_ifs
        · exact flagByte_clean _
        · exact hcl
      · simp [closed_microCounter]
      · simp [closed, hh]
      · simp [closed]
      · simp [closed]
      · simp [closed]

end Sys2Proof.Machine
end

