-- ==== Sys2Proof/Tests/Slice0.lean ====
section
/-! SUPPORT. The model's own tests. Expected values come from spec/: the opcode rows of 30_encoding, the vectors of
95_test_vectors (named by their id), or a hand calculation from the rule named. -/

namespace Sys2Proof.Tests

open Sys2Proof Sys2Proof.Machine

/-- What a look at the next state gives, if there is one. -/
def after {α : Type} (look : State → α) (r : Result) : Option α :=
  match r with
  | .next s => some (look s)
  | .fault _ => none
  | .refused _ => none

/-- The error of an answer, if it is one. -/
def errorOf (r : Result) : Option Fault :=
  match r with
  | .next _ => none
  | .fault e => some e
  | .refused _ => none

/-- The refusal of an answer, if it is one. -/
def refusalOf (r : Result) : Option Refusal :=
  match r with
  | .next _ => none
  | .fault _ => none
  | .refused e => some e

/-- The instruction `op n` at the program counter. -/
def place (op n : Byte) (s : State) : State := (s.write s.pc op).write (s.pc + 1#8) n

/-- The start of the single-cycle vectors W1 to W21 (95_test_vectors, 2.3). -/
def wStart : State := { State.reset with
  a := 0x10#8, b := 0x22#8, x := 0x33#8, mar := 0x40#8, mem := [(0x40, 0x99#8)], microCounter := 4 }

/-- What `decode` reads from an opcode and an operand byte. -/
def read2 (op n : Byte) : Option Instr :=
  match decode [op, n] with
  | .ok (i, []) => some i
  | .ok (_, _ :: _) => none
  | .error _ => none

/-! ### Well-formedness: each ill-formed term is refused (40_cycle R132, R154; 60_exceptions R315) -/


/-- R132 (a), W13. -/
theorem test_illFormed_two_operations : refusalOf (wordCycle (word [.sub, .or, .alo, .ai]) wStart) =
    some (.illFormedWord (word [.sub, .or, .alo, .ai])) := by rfl
/-- R132 (a). -/
theorem test_illFormed_two_shifts : refusalOf (wordCycle (word [.shl, .shr, .alo, .ai]) wStart) =
    some (.illFormedWord (word [.shl, .shr, .alo, .ai])) := by rfl
/-- R132 (b), W15. -/
theorem test_illFormed_pc_both_steps : refusalOf (wordCycle (word [.pcp, .pcm]) wStart) =
    some (.illFormedWord (word [.pcp, .pcm])) := by rfl
/-- R132 (b). -/
theorem test_illFormed_sp_both_steps : refusalOf (wordCycle (word [.spp, .spm]) wStart) =
    some (.illFormedWord (word [.spp, .spm])) := by rfl
/-- R132 (b). -/
theorem test_illFormed_sp_reset_and_up : refusalOf (wordCycle (word [.spr, .spp]) wStart) =
    some (.illFormedWord (word [.spr, .spp])) := by rfl
/-- R132 (b). -/
theorem test_illFormed_sp_reset_and_down : refusalOf (wordCycle (word [.spr, .spm]) wStart) =
    some (.illFormedWord (word [.spr, .spm])) := by rfl
/-- R132 (c), W14. -/
theorem test_illFormed_a_both_ways : refusalOf (wordCycle (word [.ai, .ao]) wStart) =
    some (.illFormedWord (word [.ai, .ao])) := by rfl
/-- R132 (c). -/
theorem test_illFormed_b_both_ways : refusalOf (wordCycle (word [.bi, .bo]) wStart) =
    some (.illFormedWord (word [.bi, .bo])) := by rfl
/-- R132 (c). -/
theorem test_illFormed_x_both_ways : refusalOf (wordCycle (word [.xi, .xo]) wStart) =
    some (.illFormedWord (word [.xi, .xo])) := by rfl
/-- R132 (c). -/
theorem test_illFormed_pc_both_ways : refusalOf (wordCycle (word [.pci, .pco]) wStart) =
    some (.illFormedWord (word [.pci, .pco])) := by rfl
/-- R132 (c). -/
theorem test_illFormed_opd_both_ways : refusalOf (wordCycle (word [.oi, .oo]) wStart) =
    some (.illFormedWord (word [.oi, .oo])) := by rfl
/-- R132 (c). -/
theorem test_illFormed_memory_both_ways : refusalOf (wordCycle (word [.mi, .mo]) wStart) =
    some (.illFormedWord (word [.mi, .mo])) := by rfl
/-- R132 (d). -/
theorem test_illFormed_x_set_and_received : refusalOf (wordCycle (word [.ao, .x1, .xi]) wStart) =
    some (.illFormedWord (word [.ao, .x1, .xi])) := by rfl
/-- R132 (d). -/
theorem test_illFormed_pc_stepped_and_received : refusalOf (wordCycle (word [.oo, .pci, .pcp]) wStart) =
    some (.illFormedWord (word [.oo, .pci, .pcp])) := by rfl
/-- R132 (d). -/
theorem test_illFormed_pc_down_and_received : refusalOf (wordCycle (word [.oo, .pci, .pcm]) wStart) =
    some (.illFormedWord (word [.oo, .pci, .pcm])) := by rfl
/-- R132 (e), W16. -/
theorem test_illFormed_mar_and_memory : refusalOf (wordCycle (word [.mai, .mi, .ao]) wStart) =
    some (.illFormedWord (word [.mai, .mi, .ao])) := by rfl
theorem test_illFormed_programs :
    [[], [word [.ao, .bi]], [word [.rst], word [.rst]], [word [.ao, .bo, .rst]], [word [.ai, .rst]],
      [word [.ao], word [.ao], word [.ao], word [.ao], word [.rst]]].map WellFormed.microProgram =
    [false, false, false, false, false, false] := by rfl
theorem test_wellFormed_program : WellFormed.microProgram [word [.ao, .bi], word [.bo, .xi, .rst]] = true := by rfl
theorem test_illFormed_image : WellFormed.image (List.replicate 255 0#8) = false := by
  simp only [WellFormed.image, List.length_replicate]; rfl
theorem test_wellFormed_image : WellFormed.image (List.replicate 256 0#8) = true := by
  simp only [WellFormed.image, List.length_replicate]; rfl

/-! ### Decoding: every row of the opcode table (30_encoding R104 to R112) -/

theorem test_decode_misc : [
      read2 0x00#8 0xA5#8, read2 0x01#8 0xA6#8, read2 0x02#8 0xA7#8, read2 0x03#8 0xA8#8, read2 0x04#8 0xA9#8,
      read2 0x05#8 0xAA#8, read2 0x06#8 0xAB#8, read2 0x07#8 0xAC#8, read2 0x08#8 0xAD#8, read2 0x09#8 0xAE#8,
      read2 0x0A#8 0xAF#8, read2 0x0B#8 0xB0#8, read2 0x0C#8 0xB1#8, read2 0x0D#8 0xB2#8, read2 0x0E#8 0xB3#8,
      read2 0x0F#8 0xB4#8] = [
      some .noop, some .halt, some .unassigned02, some .unassigned03, some .unassigned04, some .unassigned05,
      some .unassigned06, some .unassigned07, some .unassigned08, some .unassigned09, some .unassigned0A,
      some .unassigned0B, some .unassigned0C, some .unassigned0D, some .unassigned0E, some .unassigned0F] := by rfl

theorem test_decode_load : [
      read2 0x10#8 0xB5#8, read2 0x11#8 0xB6#8, read2 0x12#8 0xB7#8, read2 0x13#8 0xB8#8, read2 0x14#8 0xB9#8,
      read2 0x15#8 0xBA#8, read2 0x16#8 0xBB#8, read2 0x17#8 0xBC#8, read2 0x18#8 0xBD#8, read2 0x19#8 0xBE#8,
      read2 0x1A#8 0xBF#8, read2 0x1B#8 0xC0#8, read2 0x1C#8 0xC1#8, read2 0x1D#8 0xC2#8, read2 0x1E#8 0xC3#8,
      read2 0x1F#8 0xC4#8] = [
      some (.loadLitA 0xB5#8), some (.loadLitB 0xB6#8), some (.loadMemA 0xB7#8), some (.loadMemB 0xB8#8),
      some .unassigned14, some .unassigned15, some .unassigned16, some .unassigned17, some .unassigned18,
      some .unassigned19, some .unassigned1A, some .unassigned1B, some .unassigned1C, some .unassigned1D,
      some .unassigned1E, some .unassigned1F] := by rfl

theorem test_decode_storeMove : [
      read2 0x20#8 0xC5#8, read2 0x21#8 0xC6#8, read2 0x22#8 0xC7#8, read2 0x23#8 0xC8#8, read2 0x24#8 0xC9#8,
      read2 0x25#8 0xCA#8, read2 0x26#8 0xCB#8, read2 0x27#8 0xCC#8, read2 0x28#8 0xCD#8, read2 0x29#8 0xCE#8,
      read2 0x2A#8 0xCF#8, read2 0x2B#8 0xD0#8, read2 0x2C#8 0xD1#8, read2 0x2D#8 0xD2#8, read2 0x2E#8 0xD3#8,
      read2 0x2F#8 0xD4#8] = [
      some (.storeA 0xC5#8), some (.storeB 0xC6#8), some .unassigned22, some .moveAB, some .moveAX,
      some .moveBA, some .moveBX, some .moveXA, some .moveXB, some .swap, some .unassigned2A,
      some .unassigned2B, some .unassigned2C, some .unassigned2D, some .unassigned2E, some .unassigned2F] := by rfl

theorem test_decode_add : [
      read2 0x30#8 0xD5#8, read2 0x31#8 0xD6#8, read2 0x32#8 0xD7#8, read2 0x33#8 0xD8#8, read2 0x34#8 0xD9#8,
      read2 0x35#8 0xDA#8, read2 0x36#8 0xDB#8, read2 0x37#8 0xDC#8, read2 0x38#8 0xDD#8, read2 0x39#8 0xDE#8,
      read2 0x3A#8 0xDF#8, read2 0x3B#8 0xE0#8, read2 0x3C#8 0xE1#8, read2 0x3D#8 0xE2#8, read2 0x3E#8 0xE3#8,
      read2 0x3F#8 0xE4#8] = [
      some .addB, some .addX, some (.addMemN 0xD7#8), some .addMemB, some .addMemX, some .unassigned35,
      some .unassigned36, some .unassigned37, some .unassigned38, some .unassigned39, some .unassigned3A,
      some .unassigned3B, some .unassigned3C, some .unassigned3D, some .unassigned3E, some .unassigned3F] := by rfl

theorem test_decode_sub : [
      read2 0x40#8 0xE5#8, read2 0x41#8 0xE6#8, read2 0x42#8 0xE7#8, read2 0x43#8 0xE8#8, read2 0x44#8 0xE9#8,
      read2 0x45#8 0xEA#8, read2 0x46#8 0xEB#8, read2 0x47#8 0xEC#8, read2 0x48#8 0xED#8, read2 0x49#8 0xEE#8,
      read2 0x4A#8 0xEF#8, read2 0x4B#8 0xF0#8, read2 0x4C#8 0xF1#8, read2 0x4D#8 0xF2#8, read2 0x4E#8 0xF3#8,
      read2 0x4F#8 0xF4#8] = [
      some .subB, some .subX, some (.subMemN 0xE7#8), some .subMemB, some .subMemX, some .unassigned45,
      some .unassigned46, some .unassigned47, some .unassigned48, some .unassigned49, some .unassigned4A,
      some .unassigned4B, some .unassigned4C, some .unassigned4D, some .unassigned4E, some .unassigned4F] := by rfl

theorem test_decode_or : [
      read2 0x50#8 0xF5#8, read2 0x51#8 0xF6#8, read2 0x52#8 0xF7#8, read2 0x53#8 0xF8#8, read2 0x54#8 0xF9#8,
      read2 0x55#8 0xFA#8, read2 0x56#8 0xFB#8, read2 0x57#8 0xFC#8, read2 0x58#8 0xFD#8, read2 0x59#8 0xFE#8,
      read2 0x5A#8 0xFF#8, read2 0x5B#8 0x00#8, read2 0x5C#8 0x01#8, read2 0x5D#8 0x02#8, read2 0x5E#8 0x03#8,
      read2 0x5F#8 0x04#8] = [
      some .orB, some .orX, some (.orMemN 0xF7#8), some .orMemB, some .orMemX, some .unassigned55,
      some .unassigned56, some .unassigned57, some .unassigned58, some .unassigned59, some .unassigned5A,
      some .unassigned5B, some .unassigned5C, some .unassigned5D, some .unassigned5E, some .unassigned5F] := by rfl

theorem test_decode_xor : [
      read2 0x60#8 0x05#8, read2 0x61#8 0x06#8, read2 0x62#8 0x07#8, read2 0x63#8 0x08#8, read2 0x64#8 0x09#8,
      read2 0x65#8 0x0A#8, read2 0x66#8 0x0B#8, read2 0x67#8 0x0C#8, read2 0x68#8 0x0D#8, read2 0x69#8 0x0E#8,
      read2 0x6A#8 0x0F#8, read2 0x6B#8 0x10#8, read2 0x6C#8 0x11#8, read2 0x6D#8 0x12#8, read2 0x6E#8 0x13#8,
      read2 0x6F#8 0x14#8] = [
      some .xorB, some .xorX, some (.xorMemN 0x07#8), some .xorMemB, some .xorMemX, some .unassigned65,
      some .unassigned66, some .unassigned67, some .unassigned68, some .unassigned69, some .unassigned6A,
      some .unassigned6B, some .unassigned6C, some .unassigned6D, some .unassigned6E, some .unassigned6F] := by rfl

theorem test_decode_and : [
      read2 0x70#8 0x15#8, read2 0x71#8 0x16#8, read2 0x72#8 0x17#8, read2 0x73#8 0x18#8, read2 0x74#8 0x19#8,
      read2 0x75#8 0x1A#8, read2 0x76#8 0x1B#8, read2 0x77#8 0x1C#8, read2 0x78#8 0x1D#8, read2 0x79#8 0x1E#8,
      read2 0x7A#8 0x1F#8, read2 0x7B#8 0x20#8, read2 0x7C#8 0x21#8, read2 0x7D#8 0x22#8, read2 0x7E#8 0x23#8,
      read2 0x7F#8 0x24#8] = [
      some .andB, some .andX, some (.andMemN 0x17#8), some .andMemB, some .andMemX, some .unassigned75,
      some .unassigned76, some .unassigned77, some .unassigned78, some .unassigned79, some .unassigned7A,
      some .unassigned7B, some .unassigned7C, some .unassigned7D, some .unassigned7E, some .unassigned7F] := by rfl

theorem test_decode_unary : [
      read2 0x80#8 0x25#8, read2 0x81#8 0x26#8, read2 0x82#8 0x27#8, read2 0x83#8 0x28#8, read2 0x84#8 0x29#8,
      read2 0x85#8 0x2A#8, read2 0x86#8 0x2B#8, read2 0x87#8 0x2C#8, read2 0x88#8 0x2D#8, read2 0x89#8 0x2E#8,
      read2 0x8A#8 0x2F#8, read2 0x8B#8 0x30#8, read2 0x8C#8 0x31#8, read2 0x8D#8 0x32#8, read2 0x8E#8 0x33#8,
      read2 0x8F#8 0x34#8] = [
      some .unassigned80, some .notA, some .bitsl, some .bitsr, some .inc, some .dec, some .unassigned86,
      some .unassigned87, some .unassigned88, some .unassigned89, some .unassigned8A, some .unassigned8B,
      some .unassigned8C, some .unassigned8D, some .unassigned8E, some .unassigned8F] := by rfl

theorem test_decode_output : [
      read2 0x90#8 0x35#8, read2 0x91#8 0x36#8, read2 0x92#8 0x37#8, read2 0x93#8 0x38#8, read2 0x94#8 0x39#8,
      read2 0x95#8 0x3A#8, read2 0x96#8 0x3B#8, read2 0x97#8 0x3C#8, read2 0x98#8 0x3D#8, read2 0x99#8 0x3E#8,
      read2 0x9A#8 0x3F#8, read2 0x9B#8 0x40#8, read2 0x9C#8 0x41#8, read2 0x9D#8 0x42#8, read2 0x9E#8 0x43#8,
      read2 0x9F#8 0x44#8] = [
      some (.outCmd 0x35#8), some (.outAddr 0x36#8), some (.outDat 0x37#8), some (.outDatMem 0x38#8),
      some .unassigned94, some .unassigned95, some .unassigned96, some .unassigned97, some .unassigned98,
      some .unassigned99, some .unassigned9A, some .unassigned9B, some .unassigned9C, some .unassigned9D,
      some .unassigned9E, some .unassigned9F] := by rfl

theorem test_decode_jump : [
      read2 0xA0#8 0x45#8, read2 0xA1#8 0x46#8, read2 0xA2#8 0x47#8, read2 0xA3#8 0x48#8, read2 0xA4#8 0x49#8,
      read2 0xA5#8 0x4A#8, read2 0xA6#8 0x4B#8, read2 0xA7#8 0x4C#8, read2 0xA8#8 0x4D#8, read2 0xA9#8 0x4E#8,
      read2 0xAA#8 0x4F#8, read2 0xAB#8 0x50#8, read2 0xAC#8 0x51#8, read2 0xAD#8 0x52#8, read2 0xAE#8 0x53#8,
      read2 0xAF#8 0x54#8] = [
      some (.jmp 0x45#8), some (.jmpc 0x46#8), some (.jmpnc 0x47#8), some (.jmpz 0x48#8), some (.jmpnz 0x49#8),
      some (.jmpp 0x4A#8), some (.jmpnp 0x4B#8), some (.call 0x4C#8), some .ret, some .unassignedA9,
      some .unassignedAA, some .unassignedAB, some .unassignedAC, some .unassignedAD, some .unassignedAE,
      some .unassignedAF] := by rfl

theorem test_decode_stack : [
      read2 0xB0#8 0x55#8, read2 0xB1#8 0x56#8, read2 0xB2#8 0x57#8, read2 0xB3#8 0x58#8, read2 0xB4#8 0x59#8,
      read2 0xB5#8 0x5A#8, read2 0xB6#8 0x5B#8, read2 0xB7#8 0x5C#8, read2 0xB8#8 0x5D#8, read2 0xB9#8 0x5E#8,
      read2 0xBA#8 0x5F#8, read2 0xBB#8 0x60#8, read2 0xBC#8 0x61#8, read2 0xBD#8 0x62#8, read2 0xBE#8 0x63#8,
      read2 0xBF#8 0x64#8] = [
      some .pushA, some .pushB, some .popA, some .popB, some .stkrest, some .unassignedB5, some .unassignedB6,
      some .unassignedB7, some .unassignedB8, some .unassignedB9, some .unassignedBA, some .unassignedBB,
      some .unassignedBC, some .unassignedBD, some .unassignedBE, some .unassignedBF] := by rfl

theorem test_decode_unassignedC : [
      read2 0xC0#8 0x65#8, read2 0xC1#8 0x66#8, read2 0xC2#8 0x67#8, read2 0xC3#8 0x68#8, read2 0xC4#8 0x69#8,
      read2 0xC5#8 0x6A#8, read2 0xC6#8 0x6B#8, read2 0xC7#8 0x6C#8, read2 0xC8#8 0x6D#8, read2 0xC9#8 0x6E#8,
      read2 0xCA#8 0x6F#8, read2 0xCB#8 0x70#8, read2 0xCC#8 0x71#8, read2 0xCD#8 0x72#8, read2 0xCE#8 0x73#8,
      read2 0xCF#8 0x74#8] = [
      some .unassignedC0, some .unassignedC1, some .unassignedC2, some .unassignedC3, some .unassignedC4,
      some .unassignedC5, some .unassignedC6, some .unassignedC7, some .unassignedC8, some .unassignedC9,
      some .unassignedCA, some .unassignedCB, some .unassignedCC, some .unassignedCD, some .unassignedCE,
      some .unassignedCF] := by rfl

theorem test_decode_unassignedD : [
      read2 0xD0#8 0x75#8, read2 0xD1#8 0x76#8, read2 0xD2#8 0x77#8, read2 0xD3#8 0x78#8, read2 0xD4#8 0x79#8,
      read2 0xD5#8 0x7A#8, read2 0xD6#8 0x7B#8, read2 0xD7#8 0x7C#8, read2 0xD8#8 0x7D#8, read2 0xD9#8 0x7E#8,
      read2 0xDA#8 0x7F#8, read2 0xDB#8 0x80#8, read2 0xDC#8 0x81#8, read2 0xDD#8 0x82#8, read2 0xDE#8 0x83#8,
      read2 0xDF#8 0x84#8] = [
      some .unassignedD0, some .unassignedD1, some .unassignedD2, some .unassignedD3, some .unassignedD4,
      some .unassignedD5, some .unassignedD6, some .unassignedD7, some .unassignedD8, some .unassignedD9,
      some .unassignedDA, some .unassignedDB, some .unassignedDC, some .unassignedDD, some .unassignedDE,
      some .unassignedDF] := by rfl

theorem test_decode_unassignedE : [
      read2 0xE0#8 0x85#8, read2 0xE1#8 0x86#8, read2 0xE2#8 0x87#8, read2 0xE3#8 0x88#8, read2 0xE4#8 0x89#8,
      read2 0xE5#8 0x8A#8, read2 0xE6#8 0x8B#8, read2 0xE7#8 0x8C#8, read2 0xE8#8 0x8D#8, read2 0xE9#8 0x8E#8,
      read2 0xEA#8 0x8F#8, read2 0xEB#8 0x90#8, read2 0xEC#8 0x91#8, read2 0xED#8 0x92#8, read2 0xEE#8 0x93#8,
      read2 0xEF#8 0x94#8] = [
      some .unassignedE0, some .unassignedE1, some .unassignedE2, some .unassignedE3, some .unassignedE4,
      some .unassignedE5, some .unassignedE6, some .unassignedE7, some .unassignedE8, some .unassignedE9,
      some .unassignedEA, some .unassignedEB, some .unassignedEC, some .unassignedED, some .unassignedEE,
      some .unassignedEF] := by rfl

theorem test_decode_unassignedF : [
      read2 0xF0#8 0x95#8, read2 0xF1#8 0x96#8, read2 0xF2#8 0x97#8, read2 0xF3#8 0x98#8, read2 0xF4#8 0x99#8,
      read2 0xF5#8 0x9A#8, read2 0xF6#8 0x9B#8, read2 0xF7#8 0x9C#8, read2 0xF8#8 0x9D#8, read2 0xF9#8 0x9E#8,
      read2 0xFA#8 0x9F#8, read2 0xFB#8 0xA0#8, read2 0xFC#8 0xA1#8, read2 0xFD#8 0xA2#8, read2 0xFE#8 0xA3#8,
      read2 0xFF#8 0xA4#8] = [
      some .unassignedF0, some .unassignedF1, some .unassignedF2, some .unassignedF3, some .unassignedF4,
      some .unassignedF5, some .unassignedF6, some .unassignedF7, some .unassignedF8, some .unassignedF9,
      some .unassignedFA, some .unassignedFB, some .unassignedFC, some .unassignedFD, some .unassignedFE,
      some .unassignedFF] := by rfl

theorem test_decode_short : [decode [], decode [0x10#8]] = [.error (.truncated 0), .error (.truncated 1)] := by rfl
theorem test_table_words : [decodeTableWord 16 0x1005, decodeTableWord 16 0xA740, decodeTableWord 16 0xB400] =
    [some (.loadLitA 0x05#8), some (.call 0x40#8), some .stkrest] := by rfl
theorem test_encode : encode (.jmpz 0x40#8) = [0xA3#8, 0x40#8] ∧ encode .swap = [0x29#8, 0x00#8] := by decide
/-- The number of unassigned opcodes (30_encoding R112). -/
theorem test_unassigned_count : ((List.range 256).filter fun k => unassigned (BitVec.ofNat 8 k)).length = 193 := by rfl

/-! ### The ALU function (43_alu_binary R210; 95_test_vectors 2.1) -/

/-- Every row of the table of 2.1, as (operation, A, X, result, flags). -/
theorem test_alu_vectors : ([
      (.add, 0x00#8, 0x00#8, 0x00#8, 0x01#8), (.add, 0x01#8, 0x02#8, 0x03#8, 0x04#8),
      (.add, 0xC8#8, 0x64#8, 0x2C#8, 0x02#8), (.add, 0xFF#8, 0x01#8, 0x00#8, 0x03#8),
      (.add, 0xFF#8, 0xFF#8, 0xFE#8, 0x02#8), (.add, 0x7F#8, 0x01#8, 0x80#8, 0x00#8),
      (.add, 0xFF#8, 0x00#8, 0xFF#8, 0x04#8), (.sub, 0x05#8, 0x07#8, 0xFE#8, 0x00#8),
      (.sub, 0x07#8, 0x05#8, 0x02#8, 0x00#8), (.sub, 0x42#8, 0x42#8, 0x00#8, 0x01#8),
      (.sub, 0x00#8, 0x01#8, 0xFF#8, 0x04#8), (.sub, 0x00#8, 0xFF#8, 0x01#8, 0x04#8),
      (.sub, 0x80#8, 0x01#8, 0x7F#8, 0x04#8), (.or, 0xF0#8, 0x0F#8, 0xFF#8, 0x04#8),
      (.or, 0x00#8, 0x00#8, 0x00#8, 0x01#8), (.or, 0x55#8, 0x00#8, 0x55#8, 0x04#8),
      (.xor, 0xAA#8, 0xAA#8, 0x00#8, 0x01#8), (.xor, 0xAA#8, 0x55#8, 0xFF#8, 0x04#8),
      (.xor, 0x0F#8, 0xFF#8, 0xF0#8, 0x00#8), (.and, 0xF0#8, 0x3C#8, 0x30#8, 0x00#8),
      (.and, 0xF0#8, 0x0F#8, 0x00#8, 0x01#8), (.and, 0xFF#8, 0xFF#8, 0xFF#8, 0x04#8),
      (.and, 0x01#8, 0xFF#8, 0x01#8, 0x04#8), (.not, 0x0F#8, 0x33#8, 0xF0#8, 0x00#8),
      (.not, 0x0F#8, 0xCC#8, 0xF0#8, 0x00#8), (.not, 0xFF#8, 0x00#8, 0x00#8, 0x01#8),
      (.not, 0x00#8, 0x00#8, 0xFF#8, 0x04#8), (.shiftLeft, 0x81#8, 0x33#8, 0x02#8, 0x00#8),
      (.shiftLeft, 0x80#8, 0x00#8, 0x00#8, 0x01#8), (.shiftLeft, 0x40#8, 0x00#8, 0x80#8, 0x00#8),
      (.shiftLeft, 0xFF#8, 0x07#8, 0xFE#8, 0x00#8), (.shiftRight, 0x81#8, 0x33#8, 0x40#8, 0x00#8),
      (.shiftRight, 0x01#8, 0x00#8, 0x00#8, 0x01#8), (.shiftRight, 0x80#8, 0x00#8, 0x40#8, 0x00#8),
      (.shiftRight, 0xFF#8, 0x07#8, 0x7F#8, 0x04#8), (.shiftRight, 0x03#8, 0x00#8, 0x01#8, 0x04#8)] :
    List (AluOp × Byte × Byte × Byte × Byte)).all (fun v => match v with
      | (o, a, x, r, f) => aluResult o a x == r && flagByte (aluFlagResult o a x) == f) = true := by rfl

/-! ### One step of each instruction -/

/-- L1. -/
theorem test_loadLitA_L1 :
    after (fun s => (s.pc, s.a)) (step (place 0x10#8 0x05#8
      State.reset)) =
      some (0x02#8, 0x05#8) := by rfl
/-- L2. -/
theorem test_loadLitB_L2 :
    after (fun s => (s.pc, s.b)) (step (place 0x11#8 0xFF#8
      { State.reset with a := 0x77#8 })) =
      some (0x02#8, 0xFF#8) := by rfl
/-- L3. -/
theorem test_loadMemA_L3 :
    after (fun s => (s.pc, s.a)) (step (place 0x12#8 0x40#8
      { State.reset with mem := [(0x40, 0x99#8)] })) =
      some (0x02#8, 0x99#8) := by rfl
/-- L4. -/
theorem test_loadMemB_L4 :
    after (fun s => (s.pc, s.b)) (step (place 0x13#8 0x40#8
      { State.reset with mem := [(0x40, 0x99#8)] })) =
      some (0x02#8, 0x99#8) := by rfl
/-- M1. -/
theorem test_storeA_M1 :
    after (fun s => (s.pc, s.read 0x40#8)) (step (place 0x20#8 0x40#8
      { State.reset with a := 0xAB#8 })) =
      some (0x02#8, 0xAB#8) := by rfl
/-- M2. -/
theorem test_storeB_M2 :
    after (fun s => (s.pc, s.read 0x40#8)) (step (place 0x21#8 0x40#8
      { State.reset with a := 0xAB#8, b := 0xCD#8 })) =
      some (0x02#8, 0xCD#8) := by rfl
/-- M5. -/
theorem test_moveAB_M5 :
    after (fun s => (s.pc, s.b)) (step (place 0x23#8 0x00#8
      { State.reset with a := 0x11#8, b := 0x22#8, x := 0x33#8 })) =
      some (0x02#8, 0x11#8) := by rfl
/-- M6. -/
theorem test_moveAX_M6 :
    after (fun s => (s.pc, s.x)) (step (place 0x24#8 0x00#8
      { State.reset with a := 0x11#8, b := 0x22#8, x := 0x33#8 })) =
      some (0x02#8, 0x11#8) := by rfl
/-- M7. -/
theorem test_moveBA_M7 :
    after (fun s => (s.pc, s.a)) (step (place 0x25#8 0x00#8
      { State.reset with a := 0x11#8, b := 0x22#8, x := 0x33#8 })) =
      some (0x02#8, 0x22#8) := by rfl
/-- M8. -/
theorem test_moveBX_M8 :
    after (fun s => (s.pc, s.x)) (step (place 0x26#8 0x00#8
      { State.reset with a := 0x11#8, b := 0x22#8, x := 0x33#8 })) =
      some (0x02#8, 0x22#8) := by rfl
/-- M9. -/
theorem test_moveXA_M9 :
    after (fun s => (s.pc, s.a)) (step (place 0x27#8 0x00#8
      { State.reset with a := 0x11#8, b := 0x22#8, x := 0x33#8 })) =
      some (0x02#8, 0x33#8) := by rfl
/-- M10. -/
theorem test_moveXB_M10 :
    after (fun s => (s.pc, s.b)) (step (place 0x28#8 0x00#8
      { State.reset with a := 0x11#8, b := 0x22#8, x := 0x33#8 })) =
      some (0x02#8, 0x33#8) := by rfl
/-- M11. -/
theorem test_swap_M11 :
    after (fun s => (s.pc, s.a, s.b, s.x)) (step (place 0x29#8 0x00#8
      { State.reset with a := 0x11#8, b := 0x22#8, x := 0x33#8 })) =
      some (0x02#8, 0x22#8, 0x11#8, 0x11#8) := by rfl
/-- M12. -/
theorem test_swap_M12 :
    after (fun s => (s.pc, s.x)) (step (place 0x29#8 0x00#8
      { State.reset with a := 0x11#8, b := 0x11#8, x := 0x33#8 })) =
      some (0x02#8, 0x11#8) := by rfl
/-- M13. -/
theorem test_unassigned22_M13 :
    after (fun s => (s.pc, s.a, s.flg)) (step (place 0x22#8 0x40#8
      { State.reset with a := 0x11#8, b := 0x22#8, x := 0x33#8 })) =
      some (0x02#8, 0x11#8, 0x00#8) := by rfl
/-- M14. -/
theorem test_unassigned2A_M14 :
    after (fun s => (s.pc, s.a, s.flg)) (step (place 0x2A#8 0x00#8
      { State.reset with a := 0x11#8, b := 0x22#8, x := 0x33#8 })) =
      some (0x02#8, 0x11#8, 0x00#8) := by rfl
/-- M15. -/
theorem test_unassigned2B_M15 :
    after (fun s => (s.pc, s.a, s.flg)) (step (place 0x2B#8 0x00#8
      { State.reset with a := 0x11#8, b := 0x22#8, x := 0x33#8 })) =
      some (0x02#8, 0x11#8, 0x00#8) := by rfl
/-- B1. -/
theorem test_addB_B1 :
    after (fun s => (s.pc, s.a, s.x, s.flg)) (step (place 0x30#8 0x00#8
      { State.reset with a := 0xC8#8, b := 0x64#8, x := 0x11#8 })) =
      some (0x02#8, 0x2C#8, 0x64#8, 0x02#8) := by rfl
/-- B2. -/
theorem test_addX_B2 :
    after (fun s => (s.pc, s.a, s.flg)) (step (place 0x31#8 0x00#8
      { State.reset with a := 0xC8#8, b := 0x64#8, x := 0x11#8 })) =
      some (0x02#8, 0xD9#8, 0x04#8) := by rfl
/-- B3. -/
theorem test_addMemN_B3 :
    after (fun s => (s.pc, s.a, s.x, s.flg)) (step (place 0x32#8 0x40#8
      { State.reset with a := 0xC8#8, b := 0x64#8, x := 0x11#8, mem := [(0x40, 0x38#8)] })) =
      some (0x02#8, 0x00#8, 0x38#8, 0x03#8) := by rfl
/-- B4. -/
theorem test_addMemB_B4 :
    after (fun s => (s.pc, s.a, s.x, s.flg)) (step (place 0x33#8 0x00#8
      { State.reset with a := 0xC8#8, b := 0x64#8, x := 0x11#8, mem := [(0x64, 0x38#8)] })) =
      some (0x02#8, 0x00#8, 0x38#8, 0x03#8) := by rfl
/-- B5. -/
theorem test_addMemX_B5 :
    after (fun s => (s.pc, s.a, s.x, s.flg)) (step (place 0x34#8 0x00#8
      { State.reset with a := 0xC8#8, b := 0x64#8, x := 0x11#8, mem := [(0x11, 0x38#8)] })) =
      some (0x02#8, 0x00#8, 0x38#8, 0x03#8) := by rfl
/-- B6. -/
theorem test_subB_B6 :
    after (fun s => (s.pc, s.a, s.x)) (step (place 0x40#8 0x00#8
      { State.reset with a := 0x05#8, b := 0x07#8 })) =
      some (0x02#8, 0xFE#8, 0x07#8) := by rfl
/-- B7. -/
theorem test_orB_B7 :
    after (fun s => (s.pc, s.a, s.x, s.flg)) (step (place 0x50#8 0x00#8
      { State.reset with a := 0xF0#8, b := 0x0F#8 })) =
      some (0x02#8, 0xFF#8, 0x0F#8, 0x04#8) := by rfl
/-- B8. -/
theorem test_xorB_B8 :
    after (fun s => (s.pc, s.a, s.x, s.flg)) (step (place 0x60#8 0x00#8
      { State.reset with a := 0xAA#8, b := 0xAA#8 })) =
      some (0x02#8, 0x00#8, 0xAA#8, 0x01#8) := by rfl
/-- B9. -/
theorem test_andB_B9 :
    after (fun s => (s.pc, s.a, s.x)) (step (place 0x70#8 0x00#8
      { State.reset with a := 0xF0#8, b := 0x3C#8 })) =
      some (0x02#8, 0x30#8, 0x3C#8) := by rfl
/-- B10. -/
theorem test_subX_B10 :
    after (fun s => (s.pc, s.a, s.flg)) (step (place 0x41#8 0x00#8
      { State.reset with a := 0x42#8, x := 0x42#8, flg := 0x06#8 })) =
      some (0x02#8, 0x00#8, 0x01#8) := by rfl
/-- B11. -/
theorem test_subMemN_B11 :
    after (fun s => (s.pc, s.a, s.x, s.flg)) (step (place 0x42#8 0x80#8
      { State.reset with a := 0x00#8, mem := [(0x80, 0x01#8)] })) =
      some (0x02#8, 0xFF#8, 0x01#8, 0x04#8) := by rfl
/-- B12. -/
theorem test_orMemB_B12 :
    after (fun s => (s.pc, s.flg)) (step (place 0x53#8 0x00#8
      { State.reset with a := 0x00#8, b := 0x90#8 })) =
      some (0x02#8, 0x01#8) := by rfl
/-- B13. -/
theorem test_xorMemX_B13 :
    after (fun s => (s.pc, s.a, s.x, s.flg)) (step (place 0x64#8 0x00#8
      { State.reset with a := 0xFF#8, x := 0x00#8 })) =
      some (0x02#8, 0x9B#8, 0x64#8, 0x04#8) := by rfl
/-- B14. -/
theorem test_andMemN_B14 :
    after (fun s => (s.pc, s.a, s.x, s.flg)) (step (place 0x72#8 0x01#8
      { State.reset with a := 0xFF#8 })) =
      some (0x02#8, 0x01#8, 0x01#8, 0x04#8) := by rfl
/-- B15. -/
theorem test_addX_B15 :
    after (fun s => (s.pc, s.a, s.flg)) (step (place 0x31#8 0x99#8
      { State.reset with a := 0xFF#8, x := 0x01#8, flg := 0x04#8 })) =
      some (0x02#8, 0x00#8, 0x03#8) := by rfl
/-- B16. -/
theorem test_addB_B16 :
    after (fun s => (s.pc, s.a, s.x, s.flg)) (step (place 0x30#8 0x00#8
      { State.reset with a := 0x01#8, b := 0x02#8, flg := 0x03#8 })) =
      some (0x02#8, 0x03#8, 0x02#8, 0x04#8) := by rfl
/-- B17. -/
theorem test_andX_B17 :
    after (fun s => (s.pc, s.flg)) (step (place 0x71#8 0x00#8
      { State.reset with a := 0x5A#8, x := 0xFF#8, flg := 0x03#8 })) =
      some (0x02#8, 0x00#8) := by rfl
/-- B18. -/
theorem test_orX_B18 :
    after (fun s => (s.pc, s.flg)) (step (place 0x51#8 0x00#8
      { State.reset with a := 0x00#8, x := 0x00#8 })) =
      some (0x02#8, 0x01#8) := by rfl
/-- V1. -/
theorem test_notA_V1 :
    after (fun s => (s.pc, s.a)) (step (place 0x81#8 0x00#8
      { State.reset with a := 0x0F#8, x := 0x33#8 })) =
      some (0x02#8, 0xF0#8) := by rfl
/-- V3. -/
theorem test_bitsl_V3 :
    after (fun s => (s.pc, s.a)) (step (place 0x82#8 0x00#8
      { State.reset with a := 0x81#8, x := 0x33#8 })) =
      some (0x02#8, 0x02#8) := by rfl
/-- V5. -/
theorem test_bitsr_V5 :
    after (fun s => (s.pc, s.a)) (step (place 0x83#8 0x00#8
      { State.reset with a := 0x81#8, x := 0x33#8 })) =
      some (0x02#8, 0x40#8) := by rfl
/-- V7. -/
theorem test_inc_V7 :
    after (fun s => (s.pc, s.a, s.x)) (step (place 0x84#8 0x00#8
      { State.reset with a := 0x41#8, x := 0x33#8 })) =
      some (0x02#8, 0x42#8, 0x01#8) := by rfl
/-- V8. -/
theorem test_inc_V8 :
    after (fun s => (s.pc, s.a, s.x, s.flg)) (step (place 0x84#8 0x00#8
      { State.reset with a := 0xFF#8, x := 0x33#8 })) =
      some (0x02#8, 0x00#8, 0x01#8, 0x03#8) := by rfl
/-- V9. -/
theorem test_dec_V9 :
    after (fun s => (s.pc, s.a, s.x, s.flg)) (step (place 0x85#8 0x00#8
      { State.reset with a := 0x01#8, x := 0x33#8 })) =
      some (0x02#8, 0x00#8, 0x01#8, 0x01#8) := by rfl
/-- V10. -/
theorem test_dec_V10 :
    after (fun s => (s.pc, s.a, s.x, s.flg)) (step (place 0x85#8 0x00#8
      { State.reset with a := 0x00#8, x := 0x33#8, flg := 0x02#8 })) =
      some (0x02#8, 0xFF#8, 0x01#8, 0x04#8) := by rfl
/-- V11. -/
theorem test_unassigned80_V11 :
    after (fun s => (s.pc, s.a, s.flg)) (step (place 0x80#8 0x00#8
      { State.reset with a := 0x41#8, x := 0x33#8 })) =
      some (0x02#8, 0x41#8, 0x00#8) := by rfl
/-- V12. -/
theorem test_unassigned86_V12 :
    after (fun s => (s.pc, s.a, s.flg)) (step (place 0x86#8 0x00#8
      { State.reset with a := 0x41#8, x := 0x33#8 })) =
      some (0x02#8, 0x41#8, 0x00#8) := by rfl
/-- O1. -/
theorem test_outCmd_O1 :
    after (fun s => (s.pc, s.out)) (step (place 0x90#8 0x01#8
      State.reset)) =
      some (0x02#8, [(0, 0x01#8)]) := by rfl
/-- O2. -/
theorem test_outAddr_O2 :
    after (fun s => (s.pc, s.out)) (step (place 0x91#8 0x20#8
      State.reset)) =
      some (0x02#8, [(1, 0x20#8)]) := by rfl
/-- O3. -/
theorem test_outDat_O3 :
    after (fun s => (s.pc, s.out)) (step (place 0x92#8 0x41#8
      State.reset)) =
      some (0x02#8, [(2, 0x41#8)]) := by rfl
/-- O4. -/
theorem test_outDatMem_O4 :
    after (fun s => (s.pc, s.out)) (step (place 0x93#8 0x40#8
      { State.reset with mem := [(0x40, 0x7E#8)] })) =
      some (0x02#8, [(3, 0x7E#8)]) := by rfl
/-- O6. -/
theorem test_unassigned94_O6 :
    after (fun s => (s.pc, s.a, s.flg)) (step (place 0x94#8 0x41#8
      State.reset)) =
      some (0x02#8, 0x00#8, 0x00#8) := by rfl
/-- J1. -/
theorem test_jmp_J1 :
    after (fun s => (s.pc, s.a, s.flg)) (step (place 0xA0#8 0x40#8
      { State.reset with pc := 0x10#8 })) =
      some (0x40#8, 0x00#8, 0x00#8) := by rfl
/-- J4. -/
theorem test_jmpc_J4 :
    after (fun s => (s.pc, s.a, s.flg)) (step (place 0xA1#8 0x40#8
      { State.reset with pc := 0x10#8, flg := 0x02#8 })) =
      some (0x40#8, 0x00#8, 0x02#8) := by rfl
/-- J5. -/
theorem test_jmpc_J5 :
    after (fun s => (s.pc, s.a, s.flg)) (step (place 0xA1#8 0x40#8
      { State.reset with pc := 0x10#8, flg := 0x05#8 })) =
      some (0x12#8, 0x00#8, 0x05#8) := by rfl
/-- J6. -/
theorem test_jmpnc_J6 :
    after (fun s => (s.pc, s.a, s.flg)) (step (place 0xA2#8 0x40#8
      { State.reset with pc := 0x10#8, flg := 0x05#8 })) =
      some (0x40#8, 0x00#8, 0x05#8) := by rfl
/-- J7. -/
theorem test_jmpnc_J7 :
    after (fun s => (s.pc, s.a, s.flg)) (step (place 0xA2#8 0x40#8
      { State.reset with pc := 0x10#8, flg := 0x02#8 })) =
      some (0x12#8, 0x00#8, 0x02#8) := by rfl
/-- J8. -/
theorem test_jmpz_J8 :
    after (fun s => (s.pc, s.a, s.flg)) (step (place 0xA3#8 0x40#8
      { State.reset with pc := 0x10#8, flg := 0x06#8 })) =
      some (0x12#8, 0x00#8, 0x06#8) := by rfl
/-- J9. -/
theorem test_jmpz_J9 :
    after (fun s => (s.pc, s.a, s.flg)) (step (place 0xA3#8 0x40#8
      { State.reset with pc := 0x10#8, flg := 0x00#8 })) =
      some (0x12#8, 0x00#8, 0x00#8) := by rfl
/-- J11. -/
theorem test_jmpnz_J11 :
    after (fun s => (s.pc, s.a, s.flg)) (step (place 0xA4#8 0x40#8
      { State.reset with pc := 0x10#8, flg := 0x06#8 })) =
      some (0x40#8, 0x00#8, 0x06#8) := by rfl
/-- J12. -/
theorem test_jmpnz_J12 :
    after (fun s => (s.pc, s.a, s.flg)) (step (place 0xA4#8 0x40#8
      { State.reset with pc := 0x10#8, flg := 0x01#8 })) =
      some (0x12#8, 0x00#8, 0x01#8) := by rfl
/-- J13. -/
theorem test_jmpp_J13 :
    after (fun s => (s.pc, s.a, s.flg)) (step (place 0xA5#8 0x40#8
      { State.reset with pc := 0x10#8, flg := 0x04#8 })) =
      some (0x40#8, 0x00#8, 0x04#8) := by rfl
/-- J14. -/
theorem test_jmpp_J14 :
    after (fun s => (s.pc, s.a, s.flg)) (step (place 0xA5#8 0x40#8
      { State.reset with pc := 0x10#8, flg := 0x03#8 })) =
      some (0x12#8, 0x00#8, 0x03#8) := by rfl
/-- J15. -/
theorem test_jmpnp_J15 :
    after (fun s => (s.pc, s.a, s.flg)) (step (place 0xA6#8 0x40#8
      { State.reset with pc := 0x10#8, flg := 0x03#8 })) =
      some (0x40#8, 0x00#8, 0x03#8) := by rfl
/-- J16. -/
theorem test_jmpnp_J16 :
    after (fun s => (s.pc, s.a, s.flg)) (step (place 0xA6#8 0x40#8
      { State.reset with pc := 0x10#8, flg := 0x04#8 })) =
      some (0x12#8, 0x00#8, 0x04#8) := by rfl
/-- J18. -/
theorem test_call_J18 :
    after (fun s => (s.pc, s.sp, s.read 0xFF#8)) (step (place 0xA7#8 0x40#8
      { State.reset with pc := 0x10#8 })) =
      some (0x40#8, 0xFE#8, 0x12#8) := by rfl
/-- J20. -/
theorem test_call_J20 :
    after (fun s => (s.pc, s.sp, s.read 0x00#8)) (step (place 0xA7#8 0x40#8
      { State.reset with pc := 0x10#8, sp := 0x00#8 })) =
      some (0x40#8, 0xFF#8, 0x12#8) := by rfl
/-- J22. -/
theorem test_ret_J22 :
    after (fun s => (s.pc, s.sp)) (step (place 0xA8#8 0x00#8
      { State.reset with pc := 0x40#8, sp := 0xFE#8, mem := [(0xFF, 0x12#8)] })) =
      some (0x12#8, 0xFF#8) := by rfl
/-- J23. -/
theorem test_ret_J23 :
    after (fun s => (s.pc, s.sp)) (step (place 0xA8#8 0x00#8
      { State.reset with pc := 0x40#8, sp := 0xFF#8 })) =
      some (0x00#8, 0x00#8) := by rfl
/-- J25. -/
theorem test_unassignedA9_J25 :
    after (fun s => (s.pc, s.a, s.flg)) (step (place 0xA9#8 0x40#8
      { State.reset with pc := 0x10#8 })) =
      some (0x12#8, 0x00#8, 0x00#8) := by rfl
/-- K1. -/
theorem test_pushA_K1 :
    after (fun s => (s.pc, s.sp, s.read 0xFF#8)) (step (place 0xB0#8 0x00#8
      { State.reset with a := 0x5A#8, b := 0xC3#8 })) =
      some (0x02#8, 0xFE#8, 0x5A#8) := by rfl
/-- K2. -/
theorem test_pushB_K2 :
    after (fun s => (s.pc, s.sp, s.read 0xFF#8)) (step (place 0xB1#8 0x00#8
      { State.reset with a := 0x5A#8, b := 0xC3#8 })) =
      some (0x02#8, 0xFE#8, 0xC3#8) := by rfl
/-- K3. -/
theorem test_popA_K3 :
    after (fun s => (s.pc, s.a, s.sp)) (step (place 0xB2#8 0x00#8
      { State.reset with sp := 0xFE#8, mem := [(0xFF, 0x5A#8)] })) =
      some (0x02#8, 0x5A#8, 0xFF#8) := by rfl
/-- K4. -/
theorem test_popB_K4 :
    after (fun s => (s.pc, s.b, s.sp)) (step (place 0xB3#8 0x00#8
      { State.reset with sp := 0xFE#8, mem := [(0xFF, 0x5A#8)] })) =
      some (0x02#8, 0x5A#8, 0xFF#8) := by rfl
/-- K5. -/
theorem test_pushA_K5 :
    after (fun s => (s.pc, s.sp, s.read 0x00#8)) (step (place 0xB0#8 0x00#8
      { State.reset with a := 0x5A#8, sp := 0x00#8 })) =
      some (0x02#8, 0xFF#8, 0x5A#8) := by rfl
/-- K6. -/
theorem test_popA_K6 :
    after (fun s => (s.pc, s.a, s.sp)) (step (place 0xB2#8 0x00#8
      { State.reset with a := 0x77#8, sp := 0xFF#8 })) =
      some (0x02#8, 0xB2#8, 0x00#8) := by rfl
/-- K7. -/
theorem test_stkrest_K7 :
    after (fun s => (s.pc, s.sp)) (step (place 0xB4#8 0x00#8
      { State.reset with sp := 0x37#8, mem := [(0x38, 0x11#8)] })) =
      some (0x02#8, 0xFF#8) := by rfl
/-- K9. -/
theorem test_unassignedB5_K9 :
    after (fun s => (s.pc, s.a, s.flg)) (step (place 0xB5#8 0x00#8
      { State.reset with a := 0x5A#8, sp := 0x37#8 })) =
      some (0x02#8, 0x5A#8, 0x00#8) := by rfl
/-- X1. -/
theorem test_noop_X1 :
    after (fun s => (s.pc, s.a, s.flg)) (step (place 0x00#8 0x00#8
      { State.reset with a := 0x11#8, b := 0x22#8, x := 0x33#8, flg := 0x05#8 })) =
      some (0x02#8, 0x11#8, 0x05#8) := by rfl
/-- X3. -/
theorem test_halt_X3 :
    after (fun s => (s.pc, s.halted)) (step (place 0x01#8 0x00#8
      { State.reset with a := 0x11#8, b := 0x22#8, x := 0x33#8, flg := 0x05#8 })) =
      some (0x02#8, true) := by rfl
/-- X5. -/
theorem test_unassigned02_X5 :
    after (fun s => (s.pc, s.a, s.flg)) (step (place 0x02#8 0x55#8
      { State.reset with a := 0x11#8, b := 0x22#8, x := 0x33#8, flg := 0x05#8 })) =
      some (0x02#8, 0x11#8, 0x05#8) := by rfl
/-- X6. -/
theorem test_unassignedFF_X6 :
    after (fun s => (s.pc, s.a, s.flg)) (step (place 0xFF#8 0xFF#8
      { State.reset with a := 0x11#8, b := 0x22#8, x := 0x33#8, flg := 0x05#8 })) =
      some (0x02#8, 0x11#8, 0x05#8) := by rfl
/-- X7. -/
theorem test_unassigned14_X7 :
    after (fun s => (s.pc, s.a, s.flg)) (step (place 0x14#8 0x05#8
      { State.reset with a := 0x11#8 })) =
      some (0x02#8, 0x11#8, 0x00#8) := by rfl
/-- X8. -/
theorem test_unassigned35_X8 :
    after (fun s => (s.pc, s.a, s.flg)) (step (place 0x35#8 0x00#8
      { State.reset with a := 0x11#8, x := 0x33#8 })) =
      some (0x02#8, 0x11#8, 0x00#8) := by rfl
/-- By hand from R220 and R210. -/
theorem test_subMemB :
    after (fun s => (s.a, s.x, s.flg)) (step (place 0x43#8 0x00#8
      { State.reset with a := 0x9C#8, b := 0x90#8, x := 0x77#8, mem := [(0x90, 0x35#8)] })) =
      some (0x67#8, 0x35#8, 0x04#8) := by rfl
/-- By hand from R221 and R210. -/
theorem test_subMemX :
    after (fun s => (s.a, s.x, s.flg)) (step (place 0x44#8 0x00#8
      { State.reset with a := 0x9C#8, x := 0x90#8, mem := [(0x90, 0x35#8)] })) =
      some (0x67#8, 0x35#8, 0x04#8) := by rfl
/-- By hand from R224 and R210. -/
theorem test_orMemN :
    after (fun s => (s.a, s.x, s.flg)) (step (place 0x52#8 0x90#8
      { State.reset with a := 0x9C#8, x := 0x77#8, mem := [(0x90, 0x35#8)] })) =
      some (0xBD#8, 0x35#8, 0x04#8) := by rfl
/-- By hand from R226 and R210. -/
theorem test_orMemX :
    after (fun s => (s.a, s.x, s.flg)) (step (place 0x54#8 0x00#8
      { State.reset with a := 0x9C#8, x := 0x90#8, mem := [(0x90, 0x35#8)] })) =
      some (0xBD#8, 0x35#8, 0x04#8) := by rfl
/-- By hand from R228 and R210. -/
theorem test_xorX :
    after (fun s => (s.a, s.x, s.flg)) (step (place 0x61#8 0x00#8
      { State.reset with a := 0x9C#8, x := 0x35#8 })) =
      some (0xA9#8, 0x35#8, 0x04#8) := by rfl
/-- By hand from R229 and R210. -/
theorem test_xorMemN :
    after (fun s => (s.a, s.x, s.flg)) (step (place 0x62#8 0x90#8
      { State.reset with a := 0x9C#8, x := 0x77#8, mem := [(0x90, 0x35#8)] })) =
      some (0xA9#8, 0x35#8, 0x04#8) := by rfl
/-- By hand from R230 and R210. -/
theorem test_xorMemB :
    after (fun s => (s.a, s.x, s.flg)) (step (place 0x63#8 0x00#8
      { State.reset with a := 0x9C#8, b := 0x90#8, x := 0x77#8, mem := [(0x90, 0x35#8)] })) =
      some (0xA9#8, 0x35#8, 0x04#8) := by rfl
/-- By hand from R235 and R210. -/
theorem test_andMemB :
    after (fun s => (s.a, s.x, s.flg)) (step (place 0x73#8 0x00#8
      { State.reset with a := 0x9C#8, b := 0x90#8, x := 0x77#8, mem := [(0x90, 0x35#8)] })) =
      some (0x14#8, 0x35#8, 0x00#8) := by rfl
/-- By hand from R236 and R210. -/
theorem test_andMemX :
    after (fun s => (s.a, s.x, s.flg)) (step (place 0x74#8 0x00#8
      { State.reset with a := 0x9C#8, x := 0x90#8, mem := [(0x90, 0x35#8)] })) =
      some (0x14#8, 0x35#8, 0x00#8) := by rfl

/-! ### Steps: halted, mid-instruction, unassigned, placed by the host's word -/

/-- Running past the end of memory: PC wraps (10_state R26). -/
theorem test_pc_wraps : after (fun s => (s.pc, s.a)) (step (place 0x10#8 0x09#8 { State.reset with pc := 0xFF#8 })) =
    some (0x01#8, 0x09#8) := by rfl
/-- The word of an opcode row, placed as the host places it, is the first instruction after reset. -/
theorem test_withFetchWord : after (fun s => (s.a, s.pc)) (step (State.reset.withFetchWord 16 0x1005)) =
    some (0x05#8, 0x02#8) := by rfl
/-- A `store` after three fetch cycles already done: the step runs the rest (log 17). -/
theorem test_step_mid_fetch : after (fun s => (s.read 0x40#8, s.microCounter)) (step { State.reset with
    a := 0xAB#8, ir := 0x20#8, pc := 0x01#8, mar := 0x01#8, mem := [(0x00, 0x20#8), (0x01, 0x40#8)],
    microCounter := 3 }) = some (0xAB#8, 0) := by rfl
/-- The second word of a `load $0x40 -> a`, its micro-program cached. -/
def midLoad : State := { State.reset with
  ir := 0x12#8, opd := 0x40#8, pc := 0x02#8, mar := 0x40#8, mem := [(0x40, 0x99#8)]
  microCounter := 5, microProgram := rom 0x12#8 0x00#8, activeWord := 0x00000084#32 }
theorem test_step_mid_program : after (fun s => (s.a, s.pc, s.microCounter)) (step midLoad) =
    some (0x99#8, 0x02#8, 0) := by rfl
/-- T5 from cycle 5 on: a halted machine (40_cycle R149). -/
def haltedState : State := { State.reset with
  halted := true, activeWord := 0x00000003#32, ir := 0x01#8, pc := 0x02#8, mar := 0x01#8, mem := [(0x00, 0x01#8)] }
theorem test_step_halted : step haltedState = .next haltedState := by rfl
/-- 70_reset R354, with either value of the flags. -/
theorem test_cycle_counts : ([0x00#8, 0x07#8].map fun flg => [5, 6, 7].map fun n =>
    ((List.range 256).filter fun k => instrCycles (BitVec.ofNat 8 k) flg = n).length) =
    [[224, 15, 17], [224, 15, 17]] := by rfl

/-! ### Single cycles driven by a control word (95_test_vectors 2.3) -/

theorem test_W1 : errorOf (wordCycle 0x0000A000#32 wStart) = some (.busConflict (.reg .b)) := by rfl
theorem test_W3 : after (fun s => (s.b, s.x, s.mar, s.microCounter)) (wordCycle 0x00016006#32 wStart) =
    some (0x10#8, 0x10#8, 0x10#8, 0) := by rfl
theorem test_W5 : errorOf (wordCycle 0x00001000#32 wStart) = some (.busUnwritten (.component (.reg .a))) := by rfl
theorem test_W6 : errorOf (wordCycle 0x80000002#32 wStart) = some (.busUnwritten .outLine) := by rfl
theorem test_W8 : after (fun s => (s.read 0x40#8, s.lastBusValue)) (wordCycle 0x0000800A#32 wStart) =
    some (0x22#8, 0x22#8) := by rfl
theorem test_W9 : after (fun s => (s.mar, s.alu, s.microCounter)) (wordCycle 0x00000014#32 wStart) =
    some (0x99#8, 0x43#8, 5) := by rfl
theorem test_W10 : after (fun s => (s.sp, s.mar)) (wordCycle 0x00280004#32 wStart) =
    some (0xFE#8, 0xFE#8) := by rfl
theorem test_W11 : after (fun s => (s.b, s.x, s.alu, s.flg)) (wordCycle 0x00844002#32 wStart) =
    some (0x11#8, 0x01#8, 0x11#8, 0x04#8) := by rfl
theorem test_W12 : after (fun s => (s.a, s.flg, s.microCounter)) (wordCycle 0x01801000#32 wStart) =
    some (0xDD#8, 0x04#8, 5) := by rfl
theorem test_W18 : after (fun s => (s.halted, s.alu, s.microCounter)) (wordCycle 0x00000003#32 wStart) =
    some (true, 0x00#8, 0) := by rfl
theorem test_W19 : after (fun s => (s.pc, s.alu)) (wordCycle 0x00000802#32 wStart) = some (0xFF#8, 0x43#8) := by rfl
theorem test_W20 : errorOf (wordCycle 0x0002A008#32 wStart) = some (.busConflict (.reg .b)) := by rfl
theorem test_W21 : after (fun s => (s.alu, s.flg, s.aluOp)) (wordCycle 0x04000002#32 wStart) =
    some (0x23#8, 0x00#8, .add) := by rfl
/-- The lines of W11 make its number (40_cycle R130). -/
theorem test_word_number : word [.x1, .alo, .bi, .rst] = 0x00844002#32 := by rfl
/-- T2, cycle 6: the decrement before the write, the write at the old SP. -/
theorem test_T2_cycle6 : after (fun s => (s.sp, s.mar, s.read 0xFF#8, s.microCounter)) (cycles 6
    (place 0xA7#8 0x40#8 { State.reset with a := 0x01#8, x := 0x02#8, pc := 0x10#8 })) =
    some (0xFE#8, 0xFF#8, 0x12#8, 6) := by rfl
/-- T4, cycle 6: the ALU adds A and X in every cycle, the flags are not latched yet. -/
theorem test_T4_cycle6 : after (fun s => (s.x, s.alu, s.flg)) (cycles 6
    (place 0x32#8 0x40#8 { State.reset with a := 0xC8#8, x := 0x11#8, mem := [(0x40, 0x64#8)] })) =
    some (0x64#8, 0xD9#8, 0x00#8) := by rfl
/-- An index past the cached micro-program (40_cycle R159). -/
theorem test_noSuchWord : refusalOf (cycle { State.reset with microCounter := 6 }) = some .noSuchWord := by rfl

/-! ### The host's moves (60_exceptions R315, R318, R327; 40_cycle R160) -/

/-- The reply of a move and the phase after it, or its refusal. -/
def answer (o : MoveOutcome) : Option (Reply × Phase) :=
  match o with
  | .ok s r => some (r, s.phase)
  | .refused _ => none

theorem test_mark_forbidden : answer (hostMove (.markTransmit (.reg .ir)) sessionAtReset) =
    some (.error (.readForbidden .ir), .dead (.readForbidden .ir)) := by rfl
theorem test_mark_both_ways : hostMove (.markReceive (.reg .a)) ⟨{ State.reset with
    pending := { Markings.clear with a := .transmit }, txList := [.reg .a] }, .marked⟩ =
    .refused (.markedBothWays (.reg .a)) := by rfl
theorem test_execute_first : hostMove .executeStep sessionAtReset = .refused .outOfProtocol := by rfl
theorem test_loadImage_short : answer (hostMove (.loadImage [0x01#8]) sessionAtReset) =
    some (.error (.sizeMismatch 1), .between) := by rfl
theorem test_dead_decode : hostMove .decodeStep ⟨State.reset, .dead (.busConflict .mem)⟩ =
    .refused .outOfProtocol := by rfl
/-- W20 after its decode step, which marks A, B, X to transmit and the memory to receive. -/
def conflicting : State :=
  match decodeWord 0x0002A008#32 wStart with
  | .next s => s
  | .fault _ => wStart
  | .refused _ => wStart
/-- 60_exceptions R318: the first transmitter's byte stays on the bus, the two that were resolved are unmarked, the rest is
still marked, the lists and the counter are as they were, the memory is unchanged. -/
theorem test_residue_conflict : (match hostMove .executeStep ⟨conflicting, .marked⟩ with
    | .ok s _ => some (s.machine.busValue, s.machine.busHasValue, activeComponents s.machine, s.machine.txList,
        s.machine.microCounter, s.machine.read 0x40#8)
    | .refused _ => none) = some (0x10#8, true, [(.reg .x, .transmit), (.mem, .receive)], [.reg .a, .reg .b, .reg .x],
      4, 0x99#8) := by rfl
/-- 60_exceptions R318: a receiver that found nothing on the bus is unmarked, and no register is written. -/
theorem test_residue_unwritten : (match hostMove .executeStep ⟨{ wStart with
      pending := { Markings.clear with a := .receive, b := .receive }, rxList := [.reg .a, .reg .b] }, .marked⟩ with
    | .ok s _ => some (activeComponents s.machine, s.machine.a, s.phase)
    | .refused _ => none) = some ([(.reg .b, .receive)], 0x10#8, .dead (.busUnwritten (.component (.reg .a)))) := by rfl
theorem test_dead_read : answer (hostMove (.readRegister .a) ⟨wStart, .dead (.busConflict .mem)⟩) =
    some (.byte 0x10#8, .dead (.busConflict .mem)) := by rfl
theorem test_read_last_bus : answer (hostMove .queryLastBus ⟨{ State.reset with lastBusValue := 0x5A#8 }, .between⟩) =
    some (.byte 0x5A#8, .between) := by rfl
theorem test_read_flags : answer (hostMove (.readRegister .flg) ⟨{ State.reset with flg := 0x05#8 }, .marked⟩) =
    some (.byte 0x05#8, .marked) := by rfl
/-- The markings after the first decode step of a program: `MAI PCO` (60_exceptions R330). -/
theorem test_active_components : (match decodeStep State.reset with
    | .next s => activeComponents s
    | .fault _ => []
    | .refused _ => []) = [(.reg .pc, .transmit), (.reg .mar, .receive)] := by rfl
theorem test_admission : [stepUnder .listedOnly (place 0x22#8 0x00#8 State.reset),
    stepUnder .shownOnly (place 0x23#8 0x00#8 State.reset)].map refusalOf =
    [some (.notAdmitted 0x22#8), some (.notAdmitted 0x23#8)] := by rfl
theorem test_admitted : after (fun s => s.a) (stepUnder .shownOnly (place 0x10#8 0x05#8 State.reset)) =
    some 0x05#8 := by rfl
/-- Writing 0 unlists a cell; a write in the middle keeps the addresses rising. -/
theorem test_memory_canonical : [writeCell [(0x01, 0x11#8), (0x40, 0x22#8)] 0x40 0x00#8,
    writeCell [(0x01, 0x11#8), (0x40, 0x22#8)] 0x20 0x33#8] =
    [[(0x01, 0x11#8)], [(0x01, 0x11#8), (0x20, 0x33#8), (0x40, 0x22#8)]] := by rfl

/-! ### Witnesses: states and operands that meet the hypotheses of each statement -/

/-- A state between cycles with every register distinct and SP and PC at the end of the address space. -/
def busy : State := { State.reset with
  a := 0x9C#8, b := 0x90#8, x := 0x91#8, pc := 0xFF#8, sp := 0x00#8, flg := 0x05#8, mar := 0x40#8
  mem := [(0x00, 0x7F#8), (0x01, 0x66#8), (0x90, 0x35#8), (0x91, 0x36#8), (0xFF, 0x81#8)] }

theorem busy_inv : busy.CycleInv :=
  ⟨by decide, by decide, by decide, by decide, fun h => absurd h (by decide)⟩
theorem haltedState_inv : haltedState.CycleInv :=
  ⟨by decide, by decide, by decide, by decide, fun h => absurd h (by decide)⟩
theorem midLoad_inv : midLoad.CycleInv :=
  ⟨by decide, by decide, by decide, by decide, fun _ => ⟨0x12#8, 0x00#8, rfl, by decide⟩⟩
theorem witness_StepKeepsInvariant : (busy.CycleInv ∧ ∃ t, step busy = .next t) ∧
    (haltedState.CycleInv ∧ ∃ t, step haltedState = .next t) ∧ midLoad.CycleInv ∧ ∃ t, step midLoad = .next t :=
  ⟨⟨busy_inv, _, rfl⟩, ⟨haltedState_inv, _, rfl⟩, midLoad_inv, _, rfl⟩
theorem witness_CycleKeepsInvariant : (busy.CycleInv ∧ ∃ t, cycle busy = .next t) ∧
    (haltedState.CycleInv ∧ ∃ t, cycle haltedState = .next t) ∧ midLoad.CycleInv ∧ ∃ t, cycle midLoad = .next t :=
  ⟨⟨busy_inv, _, rfl⟩, ⟨haltedState_inv, _, rfl⟩, midLoad_inv, _, rfl⟩
theorem witness_CycleNeverFails : busy.CycleInv ∧ haltedState.CycleInv ∧ midLoad.CycleInv :=
  ⟨busy_inv, haltedState_inv, midLoad_inv⟩
theorem witness_StepAlwaysCompletes : busy.CycleInv ∧ haltedState.CycleInv ∧ midLoad.CycleInv :=
  ⟨busy_inv, haltedState_inv, midLoad_inv⟩
theorem witness_WellFormedWordConditions : WellFormed.controlWord 0x00003000#32 = false ∧
    WellFormed.controlWord 0x00844002#32 = true := by decide
/-- With and without `OUT`, with and without `RST`, and with a transmit line, which the halt keeps from marking. -/
theorem witness_HaltWordStopsDecodeStep : busy.AtRest ∧
    ([[Line.hlt], [.hlt, .rst], [.hlt, .out, .rst], [.hlt, .ao, .bi]].all fun l =>
      WellFormed.controlWord (word l) && has .hlt (word l)) = true ∧
    has .out (word [.hlt, .out, .rst]) = true ∧ has .out (word [.hlt, .rst]) = false := by decide
/-- A word with a transmitter and three receivers; a harness's mark of a component that is marked either way or not at
all, in either phase, and of a register that is not readable. -/
theorem witness_MarkingRules : (Component.mem ≠ .reg .ir ∧ Component.reg .opd ≠ .reg .mar) ∧
    (wStart.AtRest ∧ WellFormed.controlWord 0x00016006#32 = true ∧ has .hlt 0x00016006#32 = false) ∧
    (pendingOf conflicting.pending (.reg .a) = .transmit ∧ pendingOf conflicting.pending .mem = .receive ∧
      pendingOf conflicting.pending (.reg .sp) = .none) ∧
    (∃ t, markTransmit (.reg .sp) conflicting = .next t) ∧ ∃ e, markTransmit (.reg .flg) conflicting = .fault e :=
  ⟨by decide, by decide, by decide, ⟨_, rfl⟩, _, rfl⟩
theorem witness_OnlyBusErrorsFromCycles : (∃ e, wordCycle 0x0000A000#32 wStart = .fault e) ∧
    (∃ e, wordCycle 0x00001000#32 wStart = .fault e) ∧
    ∃ e, step { State.reset with busHasValue := true } = .fault e := ⟨⟨_, rfl⟩, ⟨_, rfl⟩, _, rfl⟩
theorem witness_SecondTransmitterConflicts : wStart.AtRest ∧ WellFormed.controlWord 0x0002A008#32 = true ∧
    has .hlt 0x0002A008#32 = false ∧ transmitters 0x0002A008#32 = [.reg .a, .reg .b, .reg .x] := by decide
theorem witness_ReceiverWithoutTransmitterFails : wStart.AtRest ∧
    (WellFormed.controlWord 0x00005000#32 = true ∧ has .hlt 0x00005000#32 = false ∧
      transmitters 0x00005000#32 = [] ∧ receivers 0x00005000#32 = [.reg .a, .reg .b]) ∧
    WellFormed.controlWord 0x80000002#32 = true ∧ has .hlt 0x80000002#32 = false ∧
      transmitters 0x80000002#32 = [] ∧ receivers 0x80000002#32 = [] ∧ has .out 0x80000002#32 = true := by decide
/-- One transmitter with a register, the memory at MAR and the output listening. -/
theorem witness_SingleTransmitterFeedsAllReceivers : wStart.AtRest ∧ wStart.mem.wf = true ∧
    WellFormed.controlWord 0x80006008#32 = true ∧ has .hlt 0x80006008#32 = false ∧
    transmitters 0x80006008#32 = [.reg .a] ∧ Component.mem ∈ receivers 0x80006008#32 ∧
    Component.reg .b ∈ receivers 0x80006008#32 ∧ Component.reg .pc ∉ receivers 0x80006008#32 ∧
    has .out 0x80006008#32 = true := by decide
/-- The second word has an immediate effect of every kind and an ALU operation. -/
theorem witness_ImmediateEffectsAndIdleWord : WellFormed.controlWord 0x01240802#32 = true ∧ wStart.AtRest ∧ WellFormed.controlWord 0x00000802#32 = true ∧
    has .hlt 0x00000802#32 = false ∧ transmitters 0x00000802#32 = [] ∧ receivers 0x00000802#32 = [] ∧
    has .out 0x00000802#32 = false := by decide
theorem witness_FlagsLatchedOnlyWithAluOutput : wStart.AtRest ∧
    (∃ t, wordCycle 0x00844002#32 wStart = .next t ∧ has .alo 0x00844002#32 = true) ∧
    (∃ t, wordCycle 0x04000002#32 wStart = .next t ∧ has .alo 0x04000002#32 = false) ∧
    ∃ t, wordCycle 0x00000003#32 wStart = .next t :=
  ⟨by decide, ⟨_, rfl, by decide⟩, ⟨_, rfl, by decide⟩, _, rfl⟩
/-- The counter at 7 without `RST`, where it wraps, and with it. -/
theorem witness_CounterAdvancesOrResets :
    (∃ t, executeStep { State.reset with microCounter := 7 } = .next t) ∧
    ∃ t, executeStep { State.reset with microCounter := 7, activeWord := 0x00000002#32 } = .next t :=
  ⟨⟨_, rfl⟩, _, rfl⟩
theorem witness_BusEmptyAfterExecuteStep :
    ∃ t, executeStep { State.reset with busHasValue := true, busValue := 0x12#8 } = .next t := ⟨_, rfl⟩
theorem witness_HaltedDecodeStepDoesNothing : haltedState.halted = true := rfl
theorem witness_HaltedMachineIsFixed : haltedState.AtRest ∧ haltedState.halted = true ∧
    haltedState.activeWord = 0x00000003#32 ∧ haltedState.microCounter = 0 ∧
    haltedState.lastBusValue = haltedState.idleBusValue := by decide
/-- Receivers: none, one twice, MAR before the memory and after it; transmitters: a register and the memory. -/
theorem witness_DirectMarkingObeysBusRules : busy.AtRest ∧ busy.mem.wf = true ∧ Component.reg .a ≠ .mem ∧
    readable .a = true ∧ Component.reg .a ∉ ([] : List Component) ∧
    Component.reg .a ∉ [Component.reg .b, .reg .b, .reg .mar, .mem] ∧ Component.mem ∉ [Component.reg .mar] ∧
    [Component.reg .mar, .mem].idxOf (.reg .mar) < [Component.reg .mar, .mem].idxOf .mem ∧
    ¬[Component.mem, .reg .mar].idxOf (.reg .mar) < [Component.mem, .reg .mar].idxOf .mem := by decide
theorem witness_RomShape : unassigned 0x22#8 = true ∧ (0xA0#8).toNat < 0xA1 ∧ 0xA6 < (0xA7#8).toNat ∧
    0x00080004#32 ∈ (rom 0xA7#8 0x00#8).dropLast := by decide
theorem witness_FetchProgramEffect : busy.AtRest ∧ busy.microCounter = 0 := by decide
theorem witness_StepRunsDecodedInstruction : busy.AtRest ∧ busy.halted = false ∧ busy.microCounter = 0 ∧
    decode [busy.read busy.pc, busy.read (busy.pc + 1#8)] = .ok (.notA, []) := ⟨by decide, rfl, rfl, rfl⟩
theorem witness_StepIsItsCycles : busy.AtRest ∧ busy.halted = false ∧ busy.microCounter = 0 := by decide
/-- Each flag set and each flag clear, for the six conditions. -/
theorem witness_JumpResult : busy.AtRest ∧ { busy with flg := 0x02#8 }.AtRest ∧
    [busy.flg.getLsbD 0, busy.flg.getLsbD 1, busy.flg.getLsbD 2] = [true, false, true] := by decide
theorem witness_CallThenReturn : busy.AtRest ∧ busy.mem.wf = true ∧
    ∃ t, exec (.call 0x40#8) busy = .next t ∧ t.AtRest := ⟨by decide, by decide, _, rfl, by decide⟩
theorem witness_PushThenPop : busy.AtRest ∧ busy.mem.wf = true ∧
    (∃ t, exec .pushA busy = .next t ∧ t.AtRest) ∧ ∃ t, exec .pushB busy = .next t ∧ t.AtRest :=
  ⟨by decide, by decide, ⟨_, rfl, by decide⟩, _, rfl, by decide⟩
/-- Each of the five stores; the later state is the state after it, with PC at the stored byte or one before it. -/
theorem witness_StoreThenLoadOrFetch : busy.AtRest ∧ busy.mem.wf = true ∧
    [Instr.storeA 0x00#8, .storeB 0x00#8, .call 0x00#8, .pushA, .pushB].all (fun i => match exec i busy with
      | .next t => decide (t.AtRest ∧ t.microCounter = 0 ∧ { t with pc := 0xFF#8 }.AtRest ∧
          { t with pc := 0xFF#8 }.pc + 1#8 = busy.sp)
      | .fault _ => false
      | .refused _ => false) = true := ⟨by decide, by decide, by rfl⟩
theorem witness_NoopAndUnassignedResult : busy.AtRest ∧ unassigned Instr.unassigned22.opcode = true ∧
    unassigned Instr.unassignedFF.opcode = true := by decide
theorem witness_FlagsWrittenOnlyByAlu : busy.AtRest ∧
    (∃ t, exec .addB busy = .next t ∧ writesFlags Instr.addB.opcode = true) ∧
    ∃ t, exec .swap busy = .next t ∧ writesFlags Instr.swap.opcode = false :=
  ⟨by decide, ⟨_, rfl, by decide⟩, _, rfl, by decide⟩
theorem witness_RegistersWrittenOnlyWhereNamed : busy.AtRest ∧
    (∃ t, exec .noop busy = .next t) ∧
    [writesA, writesB, writesX, movesSp, writesPc, writesMar, emitsOutput].map (· 0x00#8) =
      [false, false, false, false, false, false, false] ∧
    [writesA 0xB2#8, writesB 0x13#8, writesX 0x29#8, movesSp 0xB4#8, writesPc 0xA8#8, writesMar 0x34#8,
      emitsOutput 0x93#8] = [true, true, true, true, true, true, true] := ⟨by decide, ⟨_, rfl⟩, by decide, by decide⟩
theorem witness_NonStoringInstructionsKeepMemory : busy.AtRest ∧ storesByte Instr.popA.opcode = false ∧
    ∃ t, exec .popA busy = .next t := ⟨by decide, by decide, _, rfl⟩
theorem witness_StoringInstructionsWriteOneByte : busy.AtRest ∧ busy.mem.wf = true := by decide
theorem witness_HostResetRestoresState : Phase.between ≠ .marked ∧
    Phase.dead (.busConflict .mem) ≠ .marked := by decide
theorem witness_LoadImageReplacesMemoryOrFails : (List.replicate 256 0x01#8).length = 256 ∧
    (List.replicate 255 0x01#8).length ≠ 256 ∧ (List.replicate 257 0x01#8).length ≠ 256 := by
  simp only [List.length_replicate]; decide
/-- A cycle that succeeds, a cached word with two transmitters, which fails in the execute step, and marks to ask for. -/
theorem witness_HostProtocol :
    (∃ u t, hostMove .decodeStep ⟨busy, .between⟩ = .ok ⟨u, .marked⟩ .done ∧
      hostMove .executeStep ⟨u, .marked⟩ = .ok ⟨t, .between⟩ .done) ∧
    (∃ u e, hostMove .decodeStep ⟨{ midLoad with microProgram := [0#32, 0x0000A000#32] }, .between⟩ =
      .ok ⟨u, .marked⟩ .done ∧ executeStep u = .fault e) ∧
    pendingOf conflicting.pending .mem = .receive ∧ pendingOf conflicting.pending (.reg .ir) = .none :=
  ⟨⟨_, _, rfl, rfl⟩, ⟨_, _, rfl, rfl⟩, rfl, rfl⟩
theorem witness_AdmissionSwitch : busy.AtRest ∧ busy.halted = false ∧ busy.microCounter = 0 ∧
    admits .shownOnly 0x23#8 = false ∧ admits .shownOnly 0x10#8 = true := by decide

/-- The only hypothesis of the seventeen statements that follow: the machine is between cycles. -/
theorem busy_atRest : busy.AtRest := by decide
theorem witness_LoadResult : busy.AtRest := busy_atRest
theorem witness_StoreResult : busy.AtRest := busy_atRest
theorem witness_MoveAndSwapResult : busy.AtRest := busy_atRest
theorem witness_AluFromRegisterB : busy.AtRest := busy_atRest
theorem witness_AluFromRegisterX : busy.AtRest := busy_atRest
theorem witness_AluFromMemoryN : busy.AtRest := busy_atRest
theorem witness_AluFromMemoryAtB : busy.AtRest := busy_atRest
theorem witness_AluFromMemoryAtX : busy.AtRest := busy_atRest
theorem witness_NotAndShiftResult : busy.AtRest := busy_atRest
theorem witness_IncDecResult : busy.AtRest := busy_atRest
theorem witness_OutputResult : busy.AtRest := busy_atRest
theorem witness_CallResult : busy.AtRest := busy_atRest
theorem witness_ReturnResult : busy.AtRest := busy_atRest
theorem witness_PushResult : busy.AtRest := busy_atRest
theorem witness_PopResult : busy.AtRest := busy_atRest
theorem witness_StkrestResult : busy.AtRest := busy_atRest
theorem witness_HaltResult : busy.AtRest := busy_atRest

end Sys2Proof.Tests
end

/-! PROOFS. The state's statements (10_state): the values after reset, the invariants of cycles and of steps, and the
frames of the instructions. -/

namespace Sys2Proof.Machine

section Programs

/-! ### Sequences of cycles driven by fit words -/

/-- A cycle driven by a fit word that answers a next state answers one as `CyclePost` says. -/
theorem wordCycle_cyclePost {w : CtrlWord} {s t : State} (hs : s.AtRest) (hw : WellFormed.romWord w = true)
    (ho : has .hlt w = true → has .out w = false) (h : wordCycle w s = .next t) : CyclePost w s t := by
  obtain ⟨u, hu, post⟩ := wordCycle_post hs hw ho
  rw [h] at hu
  cases hu
  exact post

/-- What every cycle of a sequence of fit words keeps, the sequence keeps; and it ends between cycles. -/
theorem runWords_induction {P : State → Prop} {ws : List CtrlWord} {s t : State}
    (hw : ∀ w ∈ ws, WellFormed.romWord w = true ∧ (has .hlt w = true → has .out w = false))
    (hP : ∀ w ∈ ws, ∀ u v, u.AtRest → wordCycle w u = .next v → CyclePost w u v → P u → P v)
    (hs : s.AtRest) (h : runWords ws s = .next t) (h0 : P s) : t.AtRest ∧ P t := by
  induction ws generalizing s with
  | nil => cases h; exact ⟨hs, h0⟩
  | cons w rest ih =>
    rw [runWords_cons, andThen_eq_next] at h
    obtain ⟨u, hu, h⟩ := h
    have post := wordCycle_cyclePost hs (hw w (by simp)).1 (hw w (by simp)).2 hu
    exact ih (fun v hv => hw v (by simp [hv])) (fun v hv => hP v (by simp [hv])) post.atRest h
      (hP w (by simp) s u hs hu post h0)

/-- A sequence of cycles with its last one set apart. -/
theorem runWords_concat {init : List CtrlWord} {last : CtrlWord} {s t : State} :
    runWords (init ++ [last]) s = .next t ↔ ∃ u, runWords init s = .next u ∧ wordCycle last u = .next t := by
  simp only [runWords_append, andThen_eq_next, runWords_cons, runWords_nil, Host.Outcome.next.injEq,
    exists_eq_right]

/-! ### The words of the ROM -/

/-- Every word of the ROM is fit for a cycle from any state between cycles. -/
theorem rom_words_fit (ir flg : Byte) :
    ∀ w ∈ rom ir flg, WellFormed.romWord w = true ∧ (has .hlt w = true → has .out w = false) := by
  intro w hw
  obtain ⟨hfit, hhalt⟩ := rom_words ir flg w hw
  exact ⟨hfit, fun h => by rw [hhalt h]; rfl⟩

/-- A micro-program of the ROM is its words without the reset line and then one with it (40_cycle R154). -/
theorem rom_eq_concat (ir flg : Byte) : ∃ init last, rom ir flg = init ++ [last] ∧ has .rst last = true ∧
    ∀ w ∈ init, has .rst w = false := by
  have hne : rom ir flg ≠ [] := List.ne_nil_of_length_pos (rom_length ir flg).1
  have hsplit := (List.dropLast_append_getLast hne).symm
  have hlen : (rom ir flg).dropLast.length + 1 = (rom ir flg).length := by
    rw [List.length_dropLast]; have := (rom_length ir flg).1; omega
  refine ⟨_, _, hsplit, (rom_reset_last ir flg (k := (rom ir flg).dropLast.length) ?_).2 hlen, fun w hw => ?_⟩
  · rw [List.length_dropLast, ← List.getLast?_eq_getElem?, List.getLast?_eq_some_getLast hne]
  · obtain ⟨k, hk, rfl⟩ := List.mem_iff_getElem.1 hw
    have hword : (rom ir flg)[k]? = some (rom ir flg).dropLast[k] := by
      rw [List.getElem_dropLast, List.getElem?_eq_getElem]
    rw [← Bool.not_eq_true, rom_reset_last ir flg hword]
    omega

/-- All but the last word of a micro-program lack the halt line: the one halt word carries the reset line. -/
theorem hlt_of_not_rst {ir flg : Byte} {w : CtrlWord} (hw : w ∈ rom ir flg) (hr : has .rst w = false) :
    has .hlt w = false := by
  rw [← Bool.not_eq_true]
  intro hh
  rw [(rom_words ir flg w hw).2 hh] at hr
  exact absurd hr (by decide)

/-- A run of a whole micro-program ends with the cycle of a word that carries the reset line; what the words before it
keep holds when that cycle begins. -/
theorem runWords_rom_last {P : State → Prop} {ir flg : Byte} {s t : State}
    (hP : ∀ w ∈ rom ir flg, has .rst w = false → ∀ u v, CyclePost w u v → P u → P v)
    (hs : s.AtRest) (h : runWords (rom ir flg) s = .next t) (h0 : P s) :
    ∃ last u, (rom ir flg).getLast? = some last ∧ last ∈ rom ir flg ∧ has .rst last = true ∧ u.AtRest ∧ P u ∧
      wordCycle last u = .next t ∧ CyclePost last u t := by
  obtain ⟨init, last, hrom, hrst, hinit⟩ := rom_eq_concat ir flg
  have hmem : ∀ w ∈ init, w ∈ rom ir flg := fun w hw => by rw [hrom]; simp [hw]
  have hlast : last ∈ rom ir flg := by rw [hrom]; simp
  rw [hrom, runWords_concat] at h
  obtain ⟨u, hu, ht⟩ := h
  obtain ⟨hrest, hPu⟩ := runWords_induction (P := P) (fun w hw => rom_words_fit ir flg w (hmem w hw))
    (fun w hw a b _ _ post => hP w (hmem w hw) (hinit w hw) a b post) hs hu h0
  obtain ⟨hfit, hout⟩ := rom_words_fit ir flg last hlast
  exact ⟨last, u, by rw [hrom]; simp, hlast, hrst, hrest, hPu, ht, wordCycle_cyclePost hrest hfit hout ht⟩

/-! ### An instruction runs the ROM's program -/

theorem runProgramWith_eq_rom {i : Instr} {op n : Byte} {p : MicroProgram} {s : State} (ho : i.opcode = op)
    (hn : i.operand = n) (hu : usesOperand op = true) (hp : p = rom op s.flg) :
    runProgramWith op n p s = runProgram i.opcode (rom i.opcode s.flg)
      (if usesOperand i.opcode = true then { s with opd := i.operand } else s) := by
  rw [ho, hn, if_pos hu, hp]; rfl

theorem runProgram_eq_rom {i : Instr} {op : Byte} {p : MicroProgram} {s : State} (ho : i.opcode = op)
    (hu : usesOperand op = false) (hp : p = rom op s.flg) :
    runProgram op p s = runProgram i.opcode (rom i.opcode s.flg)
      (if usesOperand i.opcode = true then { s with opd := i.operand } else s) := by
  simp [ho, hu, hp]

/-- The meaning of every instruction runs the micro-program that the ROM gives for its opcode (40_cycle R154, R156). -/
theorem exec_eq_runProgram_rom (i : Instr) (s : State) :
    exec i s = runProgram i.opcode (rom i.opcode s.flg)
      (if usesOperand i.opcode = true then { s with opd := i.operand } else s) := by
  cases i
  case loadLitA | loadLitB | loadMemA | loadMemB | storeA | storeB | addMemN | subMemN | orMemN | xorMemN | andMemN
      | outCmd | outAddr | outDat | outDatMem | jmp | jmpc | jmpnc | jmpz | jmpnz | jmpp | jmpnp | call =>
    exact runProgramWith_eq_rom rfl rfl rfl rfl
  all_goals exact runProgram_eq_rom rfl rfl rfl

/-- The state in which the cycles of an instruction begin: its bytes latched, its micro-program cached (40_cycle R135,
R156). -/
def started (i : Instr) (s : State) : State :=
  { s with
    ir := i.opcode
    opd := if usesOperand i.opcode = true then i.operand else s.opd
    microCounter := 4
    microProgram := rom i.opcode s.flg }

theorem started_atRest {s : State} (hs : s.AtRest) (i : Instr) : (started i s).AtRest := hs

/-- The meaning of every instruction, as a sequence of cycles. -/
theorem exec_eq_runWords (i : Instr) (s : State) : exec i s = runWords (rom i.opcode s.flg) (started i s) := by
  rw [exec_eq_runProgram_rom]
  unfold runProgram started
  split_ifs <;> rfl

end Programs

section Invariants

/-! ### Parts of the invariant -/

theorem haltedWell_of_running {s : State} (h : s.halted = false) : s.HaltedWell := fun hh => by simp [h] at hh

theorem cachedWell_of_counter_le {s : State} (h : s.microCounter.val ≤ 4) : s.CachedWell := fun hc => by omega

theorem CyclePost.cycleInv {w : CtrlWord} {s t : State} (post : CyclePost w s t) (hwf : s.mem.wf = true)
    (hflags : s.FlagsClean) (hhalt : t.HaltedWell) (hcached : t.CachedWell) : t.CycleInv :=
  ⟨post.atRest, post.memory hwf, post.flags hflags, hhalt, hcached⟩

/-- A cycle whose word carries the reset line ends at the start of an instruction. -/
theorem CyclePost.instrInv_of_rst {w : CtrlWord} {s t : State} (post : CyclePost w s t) (hwf : s.mem.wf = true)
    (hflags : s.FlagsClean) (hr : has .rst w = true) (hw : t.halted = true → w = word [.hlt, .rst]) : t.InstrInv := by
  have hzero : t.microCounter = 0 := by simp [post.counter, hr]
  exact ⟨post.cycleInv hwf hflags (fun hh => ⟨post.active.trans (hw hh), hzero⟩)
    (cachedWell_of_counter_le (by simp [hzero])), hzero⟩

/-- A cycle leaves a running machine running, unless its word halts it. -/
theorem CyclePost.halted_eq_hlt {w : CtrlWord} {s t : State} (post : CyclePost w s t) (hh : s.halted = false) :
    t.halted = has .hlt w := by
  simp [post.halted, hh]

/-! ### What a cycle can be -/

/-- A halted machine's cycle is the cycle of its active word, the halt word (40_cycle R134, R149). -/
theorem cycle_eq_wordCycle_of_halted {s : State} {w : CtrlWord} (hh : s.halted = true) (ha : s.activeWord = w)
    (hw : WellFormed.controlWord w = true) (hl : has .hlt w = true) : cycle s = wordCycle w s := by
  rw [cycle_halted hh, wordCycle, decodeWord_halt hw hl, andThen_next]
  congr
  cases s
  simp_all

/-- What a cycle from a state of the invariant can be: one of a halted machine, one of the fetch program, or one of a
micro-program of the ROM (40_cycle R134, R135). -/
inductive CycleCase (s t : State) : Prop where
  | halted (post : CyclePost (word [.hlt, .rst]) s t)
  | fetch (w : CtrlWord) (running : s.halted = false) (early : s.microCounter.val < 4) (mem : w ∈ fetchProgram)
      (post : CyclePost w s t)
  | rom (w : CtrlWord) (ir flg : Byte) (running : s.halted = false) (late : 4 ≤ s.microCounter.val)
      (cached : 4 < s.microCounter.val → s.microProgram = rom ir flg)
      (at_counter : (rom ir flg)[s.microCounter.val - 4]? = some w)
      (post : CyclePost w { s with microProgram := rom ir flg } t)

/-- The word a decode step chooses is one of the fetch program up to counter 3, and past it one of the ROM's program. -/
theorem chooseWord_cases {s : State} {w : CtrlWord} {p : MicroProgram} (hc : s.CachedWell)
    (h : chooseWord s = some (w, p)) :
    (s.microCounter.val < 4 ∧ w ∈ fetchProgram ∧ p = s.microProgram) ∨
      (4 ≤ s.microCounter.val ∧ ∃ ir flg, p = rom ir flg ∧ (4 < s.microCounter.val → s.microProgram = rom ir flg) ∧
        (rom ir flg)[s.microCounter.val - 4]? = some w) := by
  simp only [chooseWord, fetchLen] at h
  rcases lt_trichotomy s.microCounter.val 4 with hlt | heq | hgt
  · simp only [hlt, if_true, Option.map_eq_some_iff, Prod.mk.injEq] at h
    obtain ⟨_, hget, rfl, rfl⟩ := h
    exact .inl ⟨hlt, List.mem_of_getElem? hget, rfl⟩
  · simp only [heq, lt_irrefl, if_true, if_false, Option.map_eq_some_iff, Prod.mk.injEq] at h
    obtain ⟨_, hget, rfl, rfl⟩ := h
    exact .inr ⟨heq.ge, s.ir, s.flg, rfl, fun hlt => absurd heq hlt.ne', heq ▸ hget⟩
  · simp only [hgt.not_gt, hgt.ne', if_false, Option.map_eq_some_iff, Prod.mk.injEq] at h
    obtain ⟨_, hget, rfl, rfl⟩ := h
    obtain ⟨ir, flg, hprog, -⟩ := hc hgt
    exact .inr ⟨hgt.le, ir, flg, hprog, fun _ => hprog, hprog ▸ hget⟩

theorem cycle_cases {s t : State} (hs : s.CycleInv) (h : cycle s = .next t) : CycleCase s t := by
  obtain ⟨hrest, -, -, hhalt, hcached⟩ := hs
  by_cases hh : s.halted = true
  · rw [cycle_eq_wordCycle_of_halted hh (hhalt hh).1 rfl rfl] at h
    exact .halted (wordCycle_cyclePost hrest rfl (fun _ => rfl) h)
  · rw [Bool.not_eq_true] at hh
    rcases hchoice : chooseWord s with _ | ⟨w, p⟩
    · simp [cycle, decodeStep, hh, hchoice] at h
    · rw [cycle_chosen hh hchoice] at h
      rcases chooseWord_cases hcached hchoice with ⟨hlt, hmem, rfl⟩ | ⟨hle, ir, flg, rfl, hprog, hget⟩
      · obtain ⟨hfit, hhlt, -⟩ := fetchProgram_words w hmem
        exact .fetch w hh hlt hmem (wordCycle_cyclePost hrest hfit (by simp [hhlt]) h)
      · obtain ⟨hfit, hout⟩ := rom_words_fit ir flg w (List.mem_of_getElem? hget)
        exact .rom w ir flg hh hle hprog hget (wordCycle_cyclePost hrest hfit hout h)

/-- A word without the reset line is not the last of its program, so the counter has a word again after its cycle. -/
theorem CyclePost.counter_succ {w : CtrlWord} {s t : State} {ir flg : Byte} (post : CyclePost w s t)
    (hget : (rom ir flg)[s.microCounter.val - 4]? = some w) (hr : has .rst w = false) (hle : 4 ≤ s.microCounter.val) :
    t.microCounter.val = s.microCounter.val + 1 ∧ t.microCounter.val - 4 < (rom ir flg).length := by
  have hlast : ¬s.microCounter.val - 4 + 1 = (rom ir flg).length := by
    rw [← rom_reset_last ir flg hget]; simp [hr]
  have hin := (List.getElem?_eq_some_iff.1 hget).1
  have hlen := (rom_length ir flg).2
  have hcounter : t.microCounter.val = s.microCounter.val + 1 := by
    rw [post.counter, hr]
    simp only [Bool.false_eq_true, if_false, Fin.val_add, Fin.val_one]
    omega
  omega

/-- Settles O4: the halt word and a program's last word end at counter 0, every other word has a word after it. -/
theorem cycleKeepsInvariant : Obligations.CycleKeepsInvariant := by
  intro s t hs h
  have ⟨_, hwf, hflags, _, _⟩ := hs
  cases cycle_cases hs h with
  | halted post => exact (post.instrInv_of_rst hwf hflags rfl fun _ => rfl).1
  | fetch w running early mem post =>
    obtain ⟨-, hhlt, hrst⟩ := fetchProgram_words w mem
    refine post.cycleInv hwf hflags (haltedWell_of_running ((post.halted_eq_hlt running).trans hhlt))
      (cachedWell_of_counter_le ?_)
    rw [post.counter, hrst]
    simp only [Bool.false_eq_true, if_false, Fin.val_add, Fin.val_one]
    omega
  | rom w ir flg running late cached at_counter post =>
    have hmem := List.mem_of_getElem? at_counter
    have hhlt : t.halted = has .hlt w := post.halted_eq_hlt running
    cases hr : has .rst w with
    | true => exact (post.instrInv_of_rst hwf hflags hr fun hh => (rom_words ir flg w hmem).2 (hhlt ▸ hh)).1
    | false =>
      refine post.cycleInv hwf hflags (haltedWell_of_running (hhlt.trans (hlt_of_not_rst hmem hr))) fun _ => ?_
      exact ⟨ir, flg, post.program, by rw [post.program]; exact (post.counter_succ at_counter hr late).2⟩

/-! ### The step -/

/-- What the cycles of a running machine keep until an instruction's last one. -/
def State.Running (s : State) : Prop := s.mem.wf = true ∧ s.FlagsClean ∧ s.halted = false

theorem CyclePost.running {w : CtrlWord} {s t : State} (post : CyclePost w s t) (hw : has .hlt w = false)
    (hs : s.Running) : t.Running := by
  obtain ⟨hwf, hflags, hh⟩ := hs
  exact ⟨post.memory hwf, post.flags hflags, (post.halted_eq_hlt hh).trans hw⟩

theorem fetch_running {s t : State} (hrest : s.AtRest) (hs : s.Running) (h : fetch s = .next t) :
    t.AtRest ∧ t.Running := by
  have hmem : ∀ w ∈ fetchProgram.drop s.microCounter.val, w ∈ fetchProgram := fun w => List.mem_of_mem_drop
  refine runWords_induction (fun w hw => ?_) (fun w hw u v _ _ post => ?_) hrest h hs
  · obtain ⟨hfit, hhlt, -⟩ := fetchProgram_words w (hmem w hw)
    exact ⟨hfit, by simp [hhlt]⟩
  · obtain ⟨-, hhlt, -⟩ := fetchProgram_words w (hmem w hw)
    exact post.running hhlt

/-- An instruction executed by a running machine ends at the start of the next one, or halted at the fixed point. -/
theorem exec_instrInv {i : Instr} {s t : State} (hrest : s.AtRest) (hs : s.Running) (h : exec i s = .next t) :
    t.InstrInv := by
  rw [exec_eq_runWords] at h
  obtain ⟨last, u, -, hmem, hrst, -, ⟨hwf, hflags, hh⟩, -, post⟩ := runWords_rom_last (P := State.Running)
    (fun w hw hr _ _ post => post.running (hlt_of_not_rst hw hr)) (started_atRest hrest i) h hs
  exact post.instrInv_of_rst hwf hflags hrst fun ht =>
    (rom_words _ _ last hmem).2 ((post.halted_eq_hlt hh).symm.trans ht)

/-- Past the fetch, a cycle goes on to the next word of the same program or ends the instruction. -/
theorem cycle_past_fetch {s t : State} (hs : s.CycleInv) (hc : 4 < s.microCounter.val) (h : cycle s = .next t) :
    t.microCounter = 0 ∨ (t.microCounter.val = s.microCounter.val + 1 ∧ t.microProgram = s.microProgram) := by
  cases cycle_cases hs h with
  | halted post => exact .inl (by rw [post.counter]; rfl)
  | fetch w running early mem post => omega
  | rom w ir flg running late cached at_counter post =>
    cases hr : has .rst w with
    | true => exact .inl (by simp [post.counter, hr])
    | false => exact .inr ⟨(post.counter_succ at_counter hr late).1, post.program.trans (cached hc).symm⟩

/-- With fuel for the words that are left, the cycles of the cached program reach the end of the instruction. -/
theorem finishInstruction_instrInv {fuel : Nat} {s t : State} (hs : s.CycleInv) (hc : 4 < s.microCounter.val)
    (hfuel : s.microProgram.length ≤ s.microCounter.val - 4 + fuel) (h : finishInstruction fuel s = .next t) :
    t.InstrInv := by
  induction fuel generalizing s with
  | zero =>
    obtain ⟨-, -, -, -, hcached⟩ := hs
    obtain ⟨-, -, -, hlt⟩ := hcached hc
    omega
  | succ fuel ih =>
    rw [finishInstruction, andThen_eq_next] at h
    obtain ⟨u, hu, h⟩ := h
    have huInv := cycleKeepsInvariant s u hs hu
    split_ifs at h with hzero
    · cases h
      exact ⟨huInv, hzero⟩
    · obtain ⟨hcount, hprog⟩ := (cycle_past_fetch hs hc hu).resolve_left hzero
      exact ih huInv (by omega) (by rw [hprog]; omega) h

/-- Settles O3: a halted machine stays at its fixed point, a fetched instruction ends with its word that resets the
counter, and a micro-program left in its middle is run to its end. -/
theorem stepKeepsInvariant : Obligations.StepKeepsInvariant := by
  intro s t hs h
  have ⟨hrest, hwf, hflags, _, hcached⟩ := hs
  unfold step at h
  split_ifs at h with hh hc
  · cases cycle_cases hs h with
    | halted post => exact post.instrInv_of_rst hwf hflags rfl fun _ => rfl
    | fetch w running => simp [hh] at running
    | rom w ir flg running => simp [hh] at running
  · rw [andThen_eq_next] at h
    obtain ⟨u, hu, h⟩ := h
    obtain ⟨hurest, hurun⟩ := fetch_running hrest ⟨hwf, hflags, by simpa using hh⟩ hu
    exact exec_instrInv hurest hurun h
  · have hc : 4 < s.microCounter.val := not_le.1 hc
    obtain ⟨ir, flg, hprog, -⟩ := hcached hc
    have hlen := (rom_length ir flg).2
    exact finishInstruction_instrInv hs hc (by rw [hprog]; omega) h

end Invariants

section Frames

/-! ### What the cycle of a word keeps -/

/-- The lines through which a cycle can write a register, other than the ALU's, which every decode step computes
(40_cycle R131, R139, R146). -/
def writeLines (r : Reg) : List Line :=
  match r with
  | .a => [.ai]
  | .b => [.bi]
  | .x => [.xi, .x1]
  | .pc => [.pci, .pcp, .pcm]
  | .sp => [.spp, .spm, .spr]
  | .ir => [.ii]
  | .opd => [.oi]
  | .mar => [.mai]
  | .alu => []
  | .flg => [.alo]

/-- What the cycle of a fit word leaves, by what it moves: nothing but the halt, one byte, or nothing (40_cycle R137 to
R148). -/
theorem wordCycle_cases {w : CtrlWord} {s t : State} (hs : s.AtRest) (hw : WellFormed.romWord w = true)
    (ho : has .hlt w = true → has .out w = false) (h : wordCycle w s = .next t) :
    t = closed (cacheBus { s with activeWord := w, halted := true }) ∨
      (∃ c, t = closed (emit (cacheBus (transferred w c s)))) ∨ t = closed (cacheBus (decoded w s)) := by
  obtain ⟨hc, hmoves⟩ := romWord_cases hw
  cases hh : has .hlt w with
  | true =>
    rw [wordCycle_halt hs hc hh (ho hh)] at h
    cases h
    exact .inl rfl
  | false =>
    rcases hmoves with ⟨c, ht⟩ | ⟨ht, hr, hout⟩
    · rw [wordCycle_one hs hc hh ht] at h
      cases h
      exact .inr (.inl ⟨c, rfl⟩)
    · rw [wordCycle_idle hs hc hh ht hr hout] at h
      cases h
      exact .inr (.inr rfl)

theorem getReg_cacheBus (s : State) (r : Reg) : getReg (cacheBus s) r = getReg s r := by cases r <;> rfl

/-- The clocking writes no register but the flags, and those only when they are latched (40_cycle R146). -/
theorem getReg_closed_of_unlatched {s : State} {r : Reg} (h : r = .flg → s.flagLatch = false) :
    getReg (closed s) r = getReg s r := by
  by_cases hr : r = .flg
  · subst hr
    simp [getReg, closed_flg, h rfl]
  · exact getReg_closed hr s

theorem getReg_transferred (w : CtrlWord) (c : Component) (s : State) (r : Reg) :
    getReg (transferred w c s) r =
      if .reg r ∈ receivers w then componentValue (decoded w s) c else getReg (decoded w s) r := by
  have hlists : getReg (transferred w c s) r =
      getReg (takeAll (receivers w) (componentValue (decoded w s) c) (transmitted w c s)) r := by cases r <;> rfl
  have hbus : getReg (transmitted w c s) r = getReg (decoded w s) r := by cases r <;> rfl
  rw [hlists, getReg_takeAll, hbus]

@[simp] theorem transferred_flagLatch (w : CtrlWord) (c : Component) (s : State) :
    (transferred w c s).flagLatch = has .alo w := by
  simp [transferred, takeAll_keeps, transmitted]

@[simp] theorem transferred_out (w : CtrlWord) (c : Component) (s : State) : (transferred w c s).out = s.out := by
  simp [transferred, takeAll_keeps, transmitted]

@[simp] theorem transferred_activeWord (w : CtrlWord) (c : Component) (s : State) :
    (transferred w c s).activeWord = w := by
  simp [transferred, takeAll_keeps, transmitted]

/-- A register's receive line is one of the lines that write it (40_cycle R131). -/
theorem not_mem_receivers_of_writeLines {w : CtrlWord} {r : Reg} (h : ∀ l ∈ writeLines r, has l w = false) :
    Component.reg r ∉ receivers w := by
  intro hr
  obtain ⟨l, hl, hset⟩ := mem_marked.1 hr
  have hline : l ∈ writeLines r := by
    cases r <;> simp_all [receiveLines, writeLines]
  simp [h l hline] at hset

/-- A decode step writes a register only through its lines (40_cycle R139, R140). -/
theorem getReg_decoded_of_writeLines {w : CtrlWord} {r : Reg} (h : ∀ l ∈ writeLines r, has l w = false)
    (hr : r ≠ .alu) (s : State) : getReg (decoded w s) r = getReg s r := by
  cases r
  case alu => exact absurd rfl hr
  all_goals
    simp only [writeLines, List.forall_mem_cons] at h
    simp [getReg, decoded, immediateEffects_x, immediateEffects_pc, immediateEffects_sp, h]

/-- The cycle of a fit word keeps a register none of whose lines the word carries. -/
theorem wordCycle_keepsReg {w : CtrlWord} {s t : State} {r : Reg} (hs : s.AtRest) (hw : WellFormed.romWord w = true)
    (ho : has .hlt w = true → has .out w = false) (ht : wordCycle w s = .next t) (hr : r ≠ .alu)
    (h : ∀ l ∈ writeLines r, has l w = false) : getReg t r = getReg s r := by
  have halo : r = .flg → has .alo w = false := by rintro rfl; exact h .alo (by simp [writeLines])
  have hdec := getReg_decoded_of_writeLines h hr s
  rcases wordCycle_cases hs hw ho ht with rfl | ⟨c, rfl⟩ | rfl
  · obtain ⟨-, -, -, -, -, -, hlatch⟩ := hs
    rw [getReg_closed_of_unlatched (by simp [hlatch]), getReg_cacheBus]
    cases r <;> rfl
  · rw [getReg_closed_of_unlatched (by simpa using halo), getReg_emit, getReg_cacheBus, getReg_transferred,
      if_neg (not_mem_receivers_of_writeLines h), hdec]
  · rw [getReg_closed_of_unlatched (by simpa using halo), getReg_cacheBus, hdec]

/-- The cycle of a fit word without `OUT` keeps the output (40_cycle R145). -/
theorem wordCycle_keepsOut {w : CtrlWord} {s t : State} (hs : s.AtRest) (hw : WellFormed.romWord w = true)
    (ho : has .hlt w = true → has .out w = false) (ht : wordCycle w s = .next t) (h : has .out w = false) :
    t.out = s.out := by
  rcases wordCycle_cases hs hw ho ht with rfl | ⟨c, rfl⟩ | rfl <;> simp [closed, emit, h]

/-! ### Which words an opcode's program has -/

/-- Whether an instruction may write a register after its fetch, by opcode: no instruction writes IR or OPD, every one
may write the ALU's register. -/
def mayWrite (r : Reg) (op : Byte) : Bool :=
  match r with
  | .a => writesA op
  | .b => writesB op
  | .x => writesX op
  | .pc => writesPc op
  | .sp => movesSp op
  | .ir => false
  | .opd => false
  | .mar => writesMar op
  | .alu => true
  | .flg => writesFlags op

/-- The ten registers (10_state R22). -/
def registers : List Reg := [.a, .b, .x, .pc, .sp, .ir, .opd, .mar, .alu, .flg]

theorem mem_registers (r : Reg) : r ∈ registers := by cases r <;> decide

/-- A word carries no line of a register the opcode may not write, `OUT` for an output instruction only, the halt line
for `halt` only. -/
def namesItsWrites (op : Byte) (w : CtrlWord) : Bool :=
  (registers.all fun r => mayWrite r op || (writeLines r).all fun l => !has l w) &&
    (emitsOutput op || !has .out w) && (op == 0x01#8 || !has .hlt w)

/-- The last word sends the ALU's result to A and latches the flags (43_alu_binary R211). -/
def endsInAlu (p : MicroProgram) : Bool :=
  match p.getLast? with
  | some w => decide (transmitters w = [.reg .alu]) && (receivers w).contains (.reg .a) && has .alo w && !has .hlt w
  | none => false

/-- A check of every opcode with its micro-program, by the nibbles of the opcode and the three flags. -/
def everyProgram (P : Byte → MicroProgram → Bool) : Bool :=
  (List.range 16).all fun hi => (List.range 16).all fun lo =>
    [true, false].all fun z => [true, false].all fun c => [true, false].all fun p =>
      P (BitVec.ofNat 8 (16 * hi + lo)) (rom (BitVec.ofNat 8 (16 * hi + lo)) (flagOf z c p))

theorem rom_of_everyProgram {P : Byte → MicroProgram → Bool} (h : everyProgram P = true) (op flg : Byte) :
    P op (rom op flg) = true := by
  have hb : ∀ b : Bool, b ∈ [true, false] := by decide
  have hop := op.isLt
  simp only [everyProgram, List.all_eq_true, List.mem_range] at h
  have hp := h (op.toNat / 16) (by omega) (op.toNat % 16) (by omega) (zeroFlag flg) (hb _) (carryFlag flg) (hb _)
    (parityFlag flg) (hb _)
  rwa [Nat.div_add_mod, BitVec.ofNat_toNat, BitVec.setWidth_eq, ← rom_flagOf] at hp

theorem rom_namesItsWrites (op flg : Byte) : ∀ w ∈ rom op flg, namesItsWrites op w = true :=
  List.all_eq_true.1 (rom_of_everyProgram (P := fun op p => p.all (namesItsWrites op)) (by rfl) op flg)

theorem rom_endsInAlu {op : Byte} (h : writesFlags op = true) (flg : Byte) : endsInAlu (rom op flg) = true := by
  have hall := rom_of_everyProgram (P := fun op p => !writesFlags op || endsInAlu p) (by rfl) op flg
  simpa [h] using hall

theorem namesItsWrites_iff {op : Byte} {w : CtrlWord} :
    namesItsWrites op w = true ↔ (∀ r, mayWrite r op = false → ∀ l ∈ writeLines r, has l w = false) ∧
      (emitsOutput op = false → has .out w = false) ∧ (op ≠ 0x01#8 → has .hlt w = false) := by
  simp [namesItsWrites, mem_registers, and_assoc, or_iff_not_imp_left]

theorem eq_halt_of_opcode {i : Instr} (h : i.opcode = 0x01#8) : i = .halt := by
  cases i
  case halt => rfl
  all_goals simp [Instr.opcode] at h

/-! ### What an instruction keeps -/

/-- What every cycle of an instruction's program keeps, the instruction keeps from the state its cycles begin in. -/
theorem exec_induction {P : State → Prop} {i : Instr} {s t : State}
    (hP : ∀ w ∈ rom i.opcode s.flg, ∀ u v, u.AtRest → wordCycle w u = .next v → CyclePost w u v → P u → P v)
    (hs : s.AtRest) (h : exec i s = .next t) (h0 : P (started i s)) : P t := by
  rw [exec_eq_runWords] at h
  exact (runWords_induction (rom_words_fit _ _) hP (started_atRest hs i) h h0).2

theorem exec_keepsReg {i : Instr} {s t : State} {r : Reg} (hs : s.AtRest) (h : exec i s = .next t)
    (hr : mayWrite r i.opcode = false) : getReg t r = getReg (started i s) r := by
  have halu : r ≠ .alu := by rintro rfl; simp [mayWrite] at hr
  refine exec_induction (P := fun u => getReg u r = getReg (started i s) r) (fun w hw u v hu huv _ ih => ?_) hs h rfl
  obtain ⟨hfit, hout⟩ := rom_words_fit _ _ w hw
  obtain ⟨hregs, -, -⟩ := namesItsWrites_iff.1 (rom_namesItsWrites _ _ w hw)
  exact (wordCycle_keepsReg hu hfit hout huv halu (hregs r hr)).trans ih

theorem exec_keepsOut {i : Instr} {s t : State} (hs : s.AtRest) (h : exec i s = .next t)
    (ho : emitsOutput i.opcode = false) : t.out = s.out := by
  refine exec_induction (P := fun u => u.out = s.out) (fun w hw u v hu huv _ ih => ?_) hs h rfl
  obtain ⟨hfit, hout⟩ := rom_words_fit _ _ w hw
  obtain ⟨-, hemits, -⟩ := namesItsWrites_iff.1 (rom_namesItsWrites _ _ w hw)
  exact (wordCycle_keepsOut hu hfit hout huv (hemits ho)).trans ih

theorem exec_keepsHalted {i : Instr} {s t : State} (hs : s.AtRest) (h : exec i s = .next t) (hi : i ≠ .halt) :
    t.halted = s.halted := by
  have hop : i.opcode ≠ 0x01#8 := fun ho => hi (eq_halt_of_opcode ho)
  refine exec_induction (P := fun u => u.halted = s.halted) (fun w hw u v _ _ post ih => ?_) hs h rfl
  obtain ⟨-, -, hhalts⟩ := namesItsWrites_iff.1 (rom_namesItsWrites _ _ w hw)
  rw [post.halted, hhalts hop, Bool.false_or, ih]

theorem exec_keepsIdle {i : Instr} {s t : State} (hs : s.AtRest) (h : exec i s = .next t) :
    t.idleBusValue = s.idleBusValue :=
  exec_induction (P := fun u => u.idleBusValue = s.idleBusValue) (fun _ _ _ _ _ _ post ih => post.idle.trans ih) hs h
    rfl

/-- An instruction's last cycle is that of its program's last word, which carries the reset line. -/
theorem exec_last {i : Instr} {s t : State} (hs : s.AtRest) (h : exec i s = .next t) :
    ∃ last u, (rom i.opcode s.flg).getLast? = some last ∧ last ∈ rom i.opcode s.flg ∧ has .rst last = true ∧ u.AtRest ∧
      wordCycle last u = .next t ∧ CyclePost last u t := by
  rw [exec_eq_runWords] at h
  obtain ⟨last, u, hlast, hmem, hrst, hu, -, ht, post⟩ :=
    runWords_rom_last (P := fun _ => True) (fun _ _ _ _ _ _ _ => trivial) (started_atRest hs i) h trivial
  exact ⟨last, u, hlast, hmem, hrst, hu, ht, post⟩

theorem exec_counter {i : Instr} {s t : State} (hs : s.AtRest) (h : exec i s = .next t) : t.microCounter = 0 := by
  obtain ⟨last, u, -, -, hrst, -, -, post⟩ := exec_last hs h
  simp [post.counter, hrst]

/-- Settles O54: a register is kept by every word of a program that carries none of the register's lines, and the ROM's
programs carry them only for the opcodes named. -/
theorem registersWrittenOnlyWhereNamed : Obligations.RegistersWrittenOnlyWhereNamed := by
  intro i s t hs h
  exact ⟨exec_keepsReg (r := .a) hs h, exec_keepsReg (r := .b) hs h, exec_keepsReg (r := .x) hs h,
    exec_keepsReg (r := .sp) hs h, exec_keepsReg (r := .pc) hs h, exec_keepsReg (r := .mar) hs h, exec_keepsOut hs h,
    exec_keepsHalted hs h, exec_keepsReg (r := .ir) hs h rfl, exec_keepsReg (r := .opd) hs h rfl, exec_keepsIdle hs h,
    exec_counter hs h⟩

/-- A cycle that sends the ALU's result to A and latches the flags leaves both as the ALU holds them (40_cycle R140,
R142, R146). -/
theorem wordCycle_alu {w : CtrlWord} {s t : State} (hs : s.AtRest) (hw : WellFormed.romWord w = true)
    (hh : has .hlt w = false) (htx : transmitters w = [.reg .alu]) (hrx : .reg .a ∈ receivers w)
    (halo : has .alo w = true) (h : wordCycle w s = .next t) : t.flg = flagByte t.aluFlags ∧ t.a = t.alu := by
  rw [wordCycle_one hs (romWord_cases hw).1 hh htx] at h
  cases h
  have hreg : ∀ r, r ≠ .flg → getReg (closed (emit (cacheBus (transferred w (.reg .alu) s)))) r =
      getReg (transferred w (.reg .alu) s) r := fun r hr => by rw [getReg_closed hr, getReg_emit, getReg_cacheBus]
  refine ⟨by simp [closed, halo], ?_⟩
  have ha := (hreg .a (by decide)).trans (getReg_transferred w (.reg .alu) s .a)
  have hu := (hreg .alu (by decide)).trans (getReg_transferred w (.reg .alu) s .alu)
  rw [if_pos hrx] at ha
  rw [if_neg (alu_not_mem_receivers w)] at hu
  exact ha.trans hu.symm

/-- Settles O53: without `ALO` in its program an instruction keeps the flags, and the last word of each of the thirty
latches the flags with the result. -/
theorem flagsWrittenOnlyByAlu : Obligations.FlagsWrittenOnlyByAlu := by
  intro i s t hs h
  refine ⟨exec_keepsReg (r := .flg) hs h, fun hf => ?_⟩
  obtain ⟨last, u, hlast, hmem, -, hu, ht, -⟩ := exec_last hs h
  have hend := rom_endsInAlu hf s.flg
  simp only [endsInAlu, hlast, Bool.and_eq_true, decide_eq_true_eq, List.contains_iff_mem, Bool.not_eq_true'] at hend
  obtain ⟨⟨⟨htx, hrx⟩, halo⟩, hhlt⟩ := hend
  exact wordCycle_alu hu (rom_words_fit _ _ last hmem).1 hhlt htx hrx halo ht

end Frames

section Reset

theorem reset_cycleInv : State.reset.CycleInv :=
  ⟨by decide, reset_wf, by decide, haltedWell_of_running rfl, cachedWell_of_counter_le (by decide)⟩

/-- Settles O1, field by field; a register by its name. -/
theorem resetValues : Obligations.ResetValues := by
  have hregs : ∀ r : Reg, r ≠ .sp → getReg State.reset r = 0#8 := by
    intro r hr
    cases r
    case sp => exact absurd rfl hr
    all_goals rfl
  exact ⟨hregs, rfl, fun _ => rfl, rfl, rfl, rfl, rfl, rfl, rfl, pendingOf_clear, rfl, rfl, rfl, rfl, rfl, rfl⟩

/-- Settles O2: at reset the machine runs, at counter 0. -/
theorem resetSatisfiesInvariants : Obligations.ResetSatisfiesInvariants :=
  ⟨reset_cycleInv, reset_cycleInv, rfl⟩

end Reset

end Sys2Proof.Machine

/-! PROOFS. The memory's statements (20_memory): which instructions write it, the one byte a storing instruction writes,
and that loads and fetches read what it holds. -/

namespace Sys2Proof.Machine

section Memory

/-! ### Sequences of fit words -/

/-- A word that drives a cycle from any state between cycles (40_cycle R132; 60_exceptions R320). -/
abbrev Fit (w : CtrlWord) : Prop := WellFormed.romWord w = true ∧ (has .hlt w = true → has .out w = false)

theorem fetchProgram_fit : ∀ w ∈ fetchProgram, Fit w := by
  intro w hw
  obtain ⟨hfit, hhlt, -⟩ := fetchProgram_words w hw
  exact ⟨hfit, by simp [hhlt]⟩

/-- Cycles driven by fit words all succeed (60_exceptions R320). -/
theorem runWords_next {ws : List CtrlWord} {s : State} (hw : ∀ w ∈ ws, Fit w) (hs : s.AtRest) :
    ∃ t, runWords ws s = .next t := by
  induction ws generalizing s with
  | nil => exact ⟨s, rfl⟩
  | cons w rest ih =>
    obtain ⟨hfit, hout⟩ := hw w (by simp)
    obtain ⟨u, hu, post⟩ := wordCycle_post hs hfit hout
    obtain ⟨t, ht⟩ := ih (fun v hv => hw v (by simp [hv])) post.atRest
    exact ⟨t, by rw [runWords_cons, hu, andThen_next, ht]⟩

theorem exec_next {s : State} (hs : s.AtRest) (i : Instr) : ∃ t, exec i s = .next t := by
  rw [exec_eq_runWords]
  exact runWords_next (rom_words_fit _ _) (started_atRest hs i)

theorem fetch_next {s : State} (hs : s.AtRest) : ∃ t, fetch s = .next t :=
  runWords_next (fun w hw => fetchProgram_fit w (List.mem_of_mem_drop hw)) hs

/-- Two cycles and the rest of a sequence, by the states between them. -/
theorem runWords_cons_cons {w w' : CtrlWord} {ws : List CtrlWord} {s t : State} :
    runWords (w :: w' :: ws) s = .next t ↔
      ∃ u v, wordCycle w s = .next u ∧ wordCycle w' u = .next v ∧ runWords ws v = .next t := by
  simp only [runWords_cons, andThen_eq_next]
  constructor
  · rintro ⟨u, hu, v, hv, h⟩; exact ⟨u, v, hu, hv, h⟩
  · rintro ⟨u, v, hu, hv, h⟩; exact ⟨u, hu, v, hv, h⟩

/-! ### An instruction by its opcode -/

theorem exec_eq_runWords_of_opcode {i : Instr} {op : Byte} {s : State} (ho : i.opcode = op) :
    exec i s = runWords (rom op s.flg) (started i s) := by
  rw [exec_eq_runWords, ho]

theorem started_opd {i : Instr} {op : Byte} {s : State} (ho : i.opcode = op) (hu : usesOperand op = true) :
    getReg (started i s) .opd = i.operand := by
  simp [getReg, started, ho, hu]

/-! ### Cycles that keep memory, or a register -/

theorem takeAll_mem_of_not_mem {cs : List Component} (h : Component.mem ∉ cs) (v : Byte) (s : State) :
    (takeAll cs v s).mem = s.mem := by
  induction cs generalizing s with
  | nil => rfl
  | cons c rest ih =>
    simp only [List.mem_cons, not_or] at h
    obtain ⟨hc, hrest⟩ := h
    cases c with
    | reg r => rw [takeAll, ih hrest]; simp [componentTake]
    | mem => exact absurd rfl hc

/-- `MI` is the one line that marks the memory to receive (40_cycle R131). -/
theorem mem_mem_receivers {w : CtrlWord} : Component.mem ∈ receivers w ↔ has .mi w = true := by
  simp [receivers, mem_marked, receiveLines]

/-- The cycle of a fit word without `MI` keeps memory (20_memory R73). -/
theorem wordCycle_keepsMem {w : CtrlWord} {s t : State} (hs : s.AtRest) (hw : Fit w) (h : has .mi w = false)
    (ht : wordCycle w s = .next t) : t.mem = s.mem := by
  rcases wordCycle_cases hs hw.1 hw.2 ht with rfl | ⟨c, rfl⟩ | rfl
  · simp [closed]
  · have hmem : Component.mem ∉ receivers w := by simp [mem_mem_receivers, h]
    simp [closed, transferred, takeAll_mem_of_not_mem hmem, transmitted]
  · simp [closed]

theorem runWords_keepsMem {ws : List CtrlWord} {s t : State} (hs : s.AtRest) (hw : ∀ w ∈ ws, Fit w)
    (h : ∀ w ∈ ws, has .mi w = false) (ht : runWords ws s = .next t) : t.mem = s.mem :=
  (runWords_induction (P := fun u => u.mem = s.mem) hw
    (fun w hmem _ _ hu huv _ ih => (wordCycle_keepsMem hu (hw w hmem) (h w hmem) huv).trans ih) hs ht rfl).2

/-- A word with no line through which its cycle could write the register. -/
abbrev Spares (w : CtrlWord) (r : Reg) : Prop := r ≠ .alu ∧ ∀ l ∈ writeLines r, has l w = false

theorem wordCycle_spares {w : CtrlWord} {s t : State} {r : Reg} (hs : s.AtRest) (hw : Fit w) (h : Spares w r)
    (ht : wordCycle w s = .next t) : getReg t r = getReg s r :=
  wordCycle_keepsReg hs hw.1 hw.2 ht h.1 h.2

/-! ### Cycles that move one byte -/

/-- A word that moves one byte over the bus, from `c` to `e`. -/
abbrev Moves (w : CtrlWord) (c e : Component) : Prop :=
  WellFormed.romWord w = true ∧ has .hlt w = false ∧ transmitters w = [c] ∧ receivers w = [e]

theorem Moves.fit {w : CtrlWord} {c e : Component} (h : Moves w c e) : Fit w := by
  obtain ⟨hfit, hhlt, -⟩ := h
  exact ⟨hfit, by simp [hhlt]⟩

theorem Moves.atRest {w : CtrlWord} {c e : Component} {s t : State} (h : Moves w c e) (hs : s.AtRest)
    (ht : wordCycle w s = .next t) : t.AtRest :=
  (wordCycle_cyclePost hs h.fit.1 h.fit.2 ht).atRest

/-- All that such a cycle does to memory and, but for the flags, to the registers: the receiver takes the byte the
transmitter holds after the decode step (40_cycle R141, R142). -/
theorem wordCycle_moves {w : CtrlWord} {c e : Component} {s t : State} (hs : s.AtRest) (hw : Moves w c e)
    (ht : wordCycle w s = .next t) :
    t.mem = (componentTake (decoded w s) e (componentValue (decoded w s) c)).mem ∧
      ∀ r, r ≠ .flg → getReg t r = getReg (componentTake (decoded w s) e (componentValue (decoded w s) c)) r := by
  obtain ⟨hfit, hhlt, htx, hrx⟩ := hw
  rw [wordCycle_one hs (romWord_cases hfit).1 hhlt htx] at ht
  cases ht
  constructor
  · cases e <;> simp [closed, transferred, hrx, takeAll, transmitted, componentTake, State.write]
  · intro r hr
    rw [getReg_closed hr, getReg_emit, getReg_cacheBus, getReg_transferred, getReg_componentTake, hrx]
    simp [eq_comm]

/-- A register's byte goes to MAR (20_memory R73). -/
theorem wordCycle_addresses {w : CtrlWord} {c : Reg} {s t : State} (hs : s.AtRest)
    (hw : Moves w (.reg c) (.reg .mar)) (hc : Spares w c) (ht : wordCycle w s = .next t) :
    t.mem = s.mem ∧ t.mar = getReg s c := by
  obtain ⟨hmem, hreg⟩ := wordCycle_moves hs hw ht
  have hmar := hreg .mar (by decide)
  rw [getReg_componentTake, if_pos rfl] at hmar
  exact ⟨by simpa [componentTake] using hmem, hmar.trans (getReg_decoded_of_writeLines hc.2 hc.1 s)⟩

/-- The cell at MAR goes to a register (20_memory R72). -/
theorem wordCycle_loads {w : CtrlWord} {d : Reg} {s t : State} (hs : s.AtRest) (hw : Moves w .mem (.reg d))
    (hd : d ≠ .flg) (ht : wordCycle w s = .next t) : t.mem = s.mem ∧ getReg t d = s.read s.mar := by
  obtain ⟨hmem, hreg⟩ := wordCycle_moves hs hw ht
  have hval := hreg d hd
  rw [getReg_componentTake, if_pos rfl] at hval
  exact ⟨by simpa [componentTake] using hmem, by simpa [componentValue, State.read] using hval⟩

/-- A register's byte goes to the cell at MAR (20_memory R72). -/
theorem wordCycle_stores {w : CtrlWord} {d : Reg} {s t : State} (hs : s.AtRest) (hw : Moves w (.reg d) .mem)
    (hd : Spares w d) (ht : wordCycle w s = .next t) : t.mem = memWrite s.mem s.mar (getReg s d) := by
  obtain ⟨hmem, -⟩ := wordCycle_moves hs hw ht
  have hval : componentValue (decoded w s) (.reg d) = getReg s d := getReg_decoded_of_writeLines hd.2 hd.1 s
  rw [hval] at hmem
  simpa [componentTake, State.write] using hmem

/-- A cycle that counts PC up, and moves a byte elsewhere (40_cycle R139). -/
theorem wordCycle_countsUp {w : CtrlWord} {c e : Component} {s t : State} (hs : s.AtRest) (hw : Moves w c e)
    (he : e ≠ .reg .pc) (hup : has .pcp w = true) (hdown : has .pcm w = false) (ht : wordCycle w s = .next t) :
    t.pc = s.pc + 1#8 := by
  obtain ⟨-, hreg⟩ := wordCycle_moves hs hw ht
  have hpc := hreg .pc (by decide)
  rw [getReg_componentTake, if_neg he] at hpc
  simpa [getReg, decoded, immediateEffects_pc, hup, hdown] using hpc

/-! ### An address cycle and the access after it -/

/-- An address cycle from register `c`, then the read of that cell into register `d` (20_memory R73). -/
theorem runWords_reads {addr load : CtrlWord} {c d : Reg} {s t : State} (hs : s.AtRest)
    (haddr : Moves addr (.reg c) (.reg .mar)) (hc : Spares addr c) (hload : Moves load .mem (.reg d)) (hd : d ≠ .flg)
    (ht : runWords [addr, load] s = .next t) : getReg t d = s.read (getReg s c) := by
  obtain ⟨u, v, hu, hv, ht⟩ := runWords_cons_cons.1 ht
  cases ht
  obtain ⟨hmem, hmar⟩ := wordCycle_addresses hs haddr hc hu
  obtain ⟨-, hval⟩ := wordCycle_loads (haddr.atRest hs hu) hload hd hv
  rw [hval, hmar, State.read, hmem, State.read]

/-- The two cycles that fetch one byte at PC into register `d` (40_cycle R136). -/
theorem runWords_fetchesByte {load : CtrlWord} {d : Reg} {s t : State} (hs : s.AtRest)
    (hload : Moves load .mem (.reg d)) (hd : d ≠ .flg ∧ d ≠ .pc) (hup : has .pcp load = true ∧ has .pcm load = false)
    (ht : runWords [word [.pco, .mai], load] s = .next t) :
    t.AtRest ∧ t.mem = s.mem ∧ getReg t d = s.read s.pc ∧ t.pc = s.pc + 1#8 ∧
      ∀ r, Spares (word [.pco, .mai]) r → Spares load r → getReg t r = getReg s r := by
  have haddr : Moves (word [.pco, .mai]) (.reg .pc) (.reg .mar) := by decide
  have hspares : Spares (word [.pco, .mai]) .pc := by decide
  have hval := runWords_reads hs haddr hspares hload hd.1 ht
  obtain ⟨u, v, hu, hv, ht⟩ := runWords_cons_cons.1 ht
  cases ht
  have hurest := haddr.atRest hs hu
  have hpc : u.pc = s.pc := wordCycle_spares (r := .pc) hs haddr.fit hspares hu
  refine ⟨hload.atRest hurest hv, ?_, hval, ?_, fun r hr hr' => ?_⟩
  · rw [(wordCycle_loads hurest hload hd.1 hv).1, (wordCycle_addresses hs haddr hspares hu).1]
  · rw [wordCycle_countsUp hurest hload (by simpa using hd.2) hup.1 hup.2 hv, hpc]
  · rw [wordCycle_spares hurest hload.fit hr' hv, wordCycle_spares hs haddr.fit hr hu]

/-- A program that writes the byte in register `d` to the cell at register `c`, and then moves no byte to memory. -/
def storesFrom (c d : Reg) (p : MicroProgram) : Bool :=
  match p with
  | addr :: store :: rest =>
    decide (Moves addr (.reg c) (.reg .mar) ∧ Spares addr c ∧ Spares addr d ∧ Moves store (.reg d) .mem ∧
      Spares store d) && rest.all fun w => !has .mi w
  | _ => false

theorem runWords_of_storesFrom {c d : Reg} {p : MicroProgram} {s t : State} (hs : s.AtRest) (hfit : ∀ w ∈ p, Fit w)
    (hp : storesFrom c d p = true) (ht : runWords p s = .next t) :
    t.mem = memWrite s.mem (getReg s c) (getReg s d) := by
  match p, hp with
  | addr :: store :: rest, hp =>
    simp only [storesFrom, Bool.and_eq_true, decide_eq_true_eq, List.all_eq_true, Bool.not_eq_true'] at hp
    obtain ⟨⟨haddr, hc, hd, hstore, hd'⟩, hrest⟩ := hp
    obtain ⟨u, v, hu, hv, ht⟩ := runWords_cons_cons.1 ht
    have hurest := haddr.atRest hs hu
    obtain ⟨hmem, hmar⟩ := wordCycle_addresses hs haddr hc hu
    calc t.mem = v.mem := runWords_keepsMem (hstore.atRest hurest hv) (fun w hw => hfit w (by simp [hw])) hrest ht
      _ = memWrite u.mem u.mar (getReg u d) := wordCycle_stores hurest hstore hd' hv
      _ = memWrite s.mem (getReg s c) (getReg s d) := by rw [hmem, hmar, wordCycle_spares hs haddr.fit hd hu]

/-! ### The instructions that do not store -/

/-- Only the five storing instructions have a word with `MI` (20_memory R73). -/
theorem rom_mi_of_not_storesByte {op : Byte} (h : storesByte op = false) (flg : Byte) :
    ∀ w ∈ rom op flg, has .mi w = false := by
  have hall := rom_of_everyProgram (P := fun op p => storesByte op || p.all fun w => !has .mi w) (by rfl) op flg
  simpa [h] using hall

theorem exec_keepsMem {i : Instr} {s t : State} (hs : s.AtRest) (hi : storesByte i.opcode = false)
    (h : exec i s = .next t) : t.mem = s.mem := by
  rw [exec_eq_runWords] at h
  exact runWords_keepsMem (s := started i s) (started_atRest hs i) (rom_words_fit _ _) (rom_mi_of_not_storesByte hi _) h

/-- Settles O55: no word of the instruction's program marks the memory to receive. -/
theorem nonStoringInstructionsKeepMemory : Obligations.NonStoringInstructionsKeepMemory := by
  intro i s t hs hi h addr
  rw [State.read, exec_keepsMem hs hi h, State.read]

/-! ### The instructions that store -/

/-- The five storing instructions, each with the address it stores to and the byte it stores (20_memory R73). -/
def storings (n : Byte) (s : State) : List (Instr × Byte × Byte) :=
  [(.storeA n, n, s.a), (.storeB n, n, s.b), (.call n, s.sp, s.pc), (.pushA, s.sp, s.a), (.pushB, s.sp, s.b)]

/-- What an instruction with such a program does to memory, from the operand and the registers it begins with. -/
theorem exec_of_storesFrom {i : Instr} {op slot v : Byte} {c d : Reg} {s t : State} (hs : s.AtRest)
    (ho : i.opcode = op) (hp : storesFrom c d (rom op s.flg) = true) (hslot : getReg (started i s) c = slot)
    (hv : getReg (started i s) d = v) (h : exec i s = .next t) : t.mem = memWrite s.mem slot v := by
  rw [exec_eq_runWords_of_opcode ho] at h
  rw [← hslot, ← hv]
  exact runWords_of_storesFrom (started_atRest hs i) (rom_words_fit _ _) hp h

/-- All that a storing instruction does to memory. -/
theorem exec_writesMem {n slot v : Byte} {i : Instr} {s t : State} (hs : s.AtRest)
    (hi : (i, slot, v) ∈ storings n s) (h : exec i s = .next t) : t.mem = memWrite s.mem slot v := by
  simp only [storings, List.mem_cons, Prod.mk.injEq, List.not_mem_nil, or_false] at hi
  obtain ⟨rfl, rfl, rfl⟩ | ⟨rfl, rfl, rfl⟩ | ⟨rfl, rfl, rfl⟩ | ⟨rfl, rfl, rfl⟩ | ⟨rfl, rfl, rfl⟩ := hi
  · exact exec_of_storesFrom (op := 0x20#8) (c := .opd) (d := .a) hs rfl rfl (started_opd (op := 0x20#8) rfl rfl) rfl h
  · exact exec_of_storesFrom (op := 0x21#8) (c := .opd) (d := .b) hs rfl rfl (started_opd (op := 0x21#8) rfl rfl) rfl h
  · exact exec_of_storesFrom (op := 0xA7#8) (c := .sp) (d := .pc) hs rfl rfl rfl rfl h
  · exact exec_of_storesFrom (op := 0xB0#8) (c := .sp) (d := .a) hs rfl rfl rfl rfl h
  · exact exec_of_storesFrom (op := 0xB1#8) (c := .sp) (d := .b) hs rfl rfl rfl rfl h

/-- A storing instruction succeeds, its slot reads as the byte stored and every other address as before. -/
theorem exec_writesOneByte {n slot v : Byte} {i : Instr} {s : State} (hs : s.AtRest) (hwf : s.mem.wf = true)
    (hi : (i, slot, v) ∈ storings n s) : ∃ t, exec i s = .next t ∧ t.read slot = v ∧ KeepsMemoryBut slot s t := by
  obtain ⟨t, ht⟩ := exec_next hs i
  have hmem := exec_writesMem hs hi ht
  refine ⟨t, ht, ?_, fun addr hne => ?_⟩
  · rw [State.read, hmem, memRead_memWrite hwf, if_pos rfl]
  · rw [State.read, hmem, memRead_memWrite_other hne, State.read]

/-- Settles O56: each of the five programs is an address cycle and the one cycle that writes memory. -/
theorem storingInstructionsWriteOneByte : Obligations.StoringInstructionsWriteOneByte := by
  intro n s hs hwf
  refine ⟨?_, ?_, ?_, ?_, ?_⟩ <;> exact exec_writesOneByte (n := n) hs hwf (by simp [storings])

/-! ### Loads and fetches -/

/-- A load of the cell at the operand byte into register `d` (41_load R182, R183). -/
theorem exec_loadsOperandCell {i : Instr} {op : Byte} {d : Reg} {load : CtrlWord} {s t : State} (hs : s.AtRest)
    (ho : i.opcode = op) (hu : usesOperand op = true) (hp : rom op s.flg = [addressFromOperand, load])
    (hload : Moves load .mem (.reg d)) (hd : d ≠ .flg) (h : exec i s = .next t) : getReg t d = s.read i.operand := by
  rw [exec_eq_runWords_of_opcode ho, hp] at h
  rw [← started_opd (s := s) ho hu]
  exact runWords_reads (c := .opd) (started_atRest hs i) (by decide) (by decide) hload hd h

theorem exec_loadMemA_a {n : Byte} {s t : State} (hs : s.AtRest) (h : exec (.loadMemA n) s = .next t) :
    t.a = s.read n :=
  exec_loadsOperandCell (op := 0x12#8) (d := .a) hs rfl rfl rfl (by decide) (by decide) h

theorem exec_loadMemB_b {n : Byte} {s t : State} (hs : s.AtRest) (h : exec (.loadMemB n) s = .next t) :
    t.b = s.read n :=
  exec_loadsOperandCell (op := 0x13#8) (d := .b) hs rfl rfl rfl (by decide) (by decide) h

/-- A whole fetch reads the opcode at PC and the operand byte at the address after it (40_cycle R136, R157). -/
theorem fetch_reads {s t : State} (hs : s.AtRest) (hc : s.microCounter = 0) (h : fetch s = .next t) :
    t.ir = s.read s.pc ∧ t.opd = s.read (s.pc + 1#8) := by
  have hsplit : fetch s = andThen (runWords (fetchProgram.take 2) s) (runWords (fetchProgram.drop 2)) := by
    rw [fetch, hc, ← runWords_append]; rfl
  rw [hsplit, andThen_eq_next] at h
  obtain ⟨u, hu, h⟩ := h
  obtain ⟨hurest, humem, huir, hupc, -⟩ := runWords_fetchesByte hs (load := word [.mo, .ii, .pcp]) (d := .ir)
    (by decide) (by decide) (by decide) hu
  obtain ⟨-, -, hopd, -, hkeeps⟩ := runWords_fetchesByte hurest (load := word [.mo, .oi, .pcp]) (d := .opd)
    (by decide) (by decide) (by decide) h
  have hir : t.ir = u.ir := hkeeps .ir (by decide) (by decide)
  refine ⟨hir.trans huir, ?_⟩
  calc t.opd = u.read u.pc := hopd
    _ = s.read (s.pc + 1#8) := by rw [State.read, humem, hupc, State.read]

/-- Settles O50: a load and a fetch read the memory as it is, and the store has put the byte there. -/
theorem storeThenLoadOrFetch : Obligations.StoreThenLoadOrFetch := by
  intro n s hs hwf i slot v hi
  obtain ⟨t, ht, hslot, -⟩ := exec_writesOneByte hs hwf hi
  refine ⟨t, ht, fun u hu hmem => ?_⟩
  have hread : u.read slot = v := by rw [State.read, hmem]; exact hslot
  obtain ⟨wa, ha⟩ := exec_next hu (.loadMemA slot)
  obtain ⟨wb, hb⟩ := exec_next hu (.loadMemB slot)
  obtain ⟨wf, hf⟩ := fetch_next hu
  refine ⟨⟨wa, ha, (exec_loadMemA_a hu ha).trans hread⟩, ⟨wb, hb, (exec_loadMemB_b hu hb).trans hread⟩,
    fun hc hpc => ⟨wf, hf, ?_⟩, fun hc hpc => ⟨wf, hf, ?_⟩⟩
  · rw [(fetch_reads hu hc hf).1, hpc, hread]
  · rw [(fetch_reads hu hc hf).2, hpc, hread]

end Memory

end Sys2Proof.Machine

/-! PROOFS. The encoding's statements (30_encoding): decoding and encoding agree both ways, and the switch that refuses
the opcodes the source does not show. -/

namespace Sys2Proof.Machine

section Encoding

/-! ### Instructions to bytes and back -/

/-- Decoding is by the pair of bytes: what follows them is left over (30_encoding R100). -/
@[simp] theorem decode_cons_cons (op n : Byte) (rest : List Byte) :
    decode (op :: n :: rest) = .ok (decodePair op n, rest) := rfl

/-- Each constructor's row of the opcode map is the row the decoder has for it (30_encoding R103 to R112). -/
theorem decodePair_opcode_operand (i : Instr) : decodePair i.opcode i.operand = i := by
  cases i
  all_goals
    dsimp only [Instr.opcode, Instr.operand]
    rfl

theorem decode_encode_append (i : Instr) (rest : List Byte) : decode (encode i ++ rest) = .ok (i, rest) := by
  simp [encode, decodePair_opcode_operand]

/-- The table's 16-bit word has the opcode in its high byte and the operand in its low byte (30_encoding R101). -/
theorem tableBytes_opcode_operand (op n : Byte) : tableBytes 16 (op.toNat * 256 + n.toNat) = [op, n] := by
  have hop := op.isLt
  have hn := n.isLt
  have hfits : (op.toNat * 256 + n.toNat) % 2 ^ 16 = op.toNat * 256 + n.toNat := Nat.mod_eq_of_lt (by omega)
  have hhigh : (op.toNat * 256 + n.toNat) / 256 = op.toNat := by omega
  have hlow : BitVec.ofNat 8 (op.toNat * 256 + n.toNat) = n := by bv_omega
  simp only [tableBytes, hfits, hhigh, hlow, BitVec.ofNat_toNat, BitVec.setWidth_eq]

/-- Settles O26: the bytes of the encoding and of the table word are the opcode and the operand, whose row is the
instruction. -/
theorem decodeEncodeAgree : Obligations.DecodeEncodeAgree := by
  intro i rest
  refine ⟨decode_encode_append i rest, ?_⟩
  rw [decodeTableWord, tableBytes_opcode_operand, decode_cons_cons, decodePair_opcode_operand]

/-! ### Bytes to instructions and back -/

/-- The bytes `op` and `n` with an ignored operand byte set to the don't-care 0 (30_encoding R100, R102). -/
def canonicalPair (op n : Byte) : List Byte := [op, if usesOperand op = true then n else 0#8]

/-- The opcode map, family by family (`hi`) and member by member (`lo`), whatever the operand byte: each row's
constructor has that opcode, and keeps the operand byte where its micro-program uses it (30_encoding R103 to R112). -/
theorem encode_decodePair_of_nibbles (n : Byte) {hi lo : Nat} (hhi : hi < 16) (hlo : lo < 16) :
    encode (decodePair (BitVec.ofNat 8 (16 * hi + lo)) n) = canonicalPair (BitVec.ofNat 8 (16 * hi + lo)) n := by
  interval_cases hi
  all_goals
    interval_cases lo
    all_goals rfl

theorem encode_decodePair (op n : Byte) : encode (decodePair op n) = canonicalPair op n := by
  have hop := op.isLt
  have h := encode_decodePair_of_nibbles n (hi := op.toNat / 16) (lo := op.toNat % 16) (by omega) (by omega)
  rwa [Nat.div_add_mod, BitVec.ofNat_toNat, BitVec.setWidth_eq] at h

/-- Settles O27: the instruction is the one of the pair's row. -/
theorem everyPairDecodes : Obligations.EveryPairDecodes :=
  fun op n rest => ⟨decodePair op n, decode_cons_cons op n rest, encode_decodePair op n⟩

/-- Settles O28: the twelve words are the encodings of the twelve instructions; a single byte is no pair. -/
theorem decodeSampleWords : Obligations.DecodeSampleWords :=
  ⟨decode_encode_append (.loadLitA 0x05#8) [], decode_encode_append (.storeB 0xFF#8) [],
    decode_encode_append .swap [], decode_encode_append (.subMemN 0x80#8) [],
    decode_encode_append .andMemX [], decode_encode_append .dec [],
    decode_encode_append (.outDatMem 0x40#8) [], decode_encode_append (.jmpz 0x40#8) [], decode_encode_append .ret [],
    decode_encode_append .stkrest [], decode_encode_append .halt [], decode_encode_append .unassigned80 [], rfl⟩

end Encoding

section Admission

/-! ### The admission switch (93 U3, U4) -/

/-- A running machine whose fetch is not over: the switch looks at the opcode that the fetch leaves in IR. -/
theorem stepUnder_of_fetching {s : State} (hh : s.halted = false) (hc : s.microCounter ≤ 4) (mode : Admission) :
    stepUnder mode s =
      andThen (fetch s) fun t => if admits mode t.ir = true then step s else .refused (.notAdmitted t.ir) := by
  simp [stepUnder, hh, hc]

/-- Of a halted machine, and of one past its fetch, the switch asks nothing. -/
theorem stepUnder_of_not_fetching {s : State} (h : s.halted = true ∨ ¬s.microCounter ≤ 4) (mode : Admission) :
    stepUnder mode s = step s := by
  unfold stepUnder
  split_ifs with hh hc
  · rfl
  · exact absurd hc (h.resolve_left hh)
  · rfl

/-- A step that has to fetch goes as its fetch goes, so a fetch before it that is only looked at changes nothing. -/
theorem andThen_fetch_step {s : State} (hh : s.halted = false) (hc : s.microCounter ≤ 4) :
    andThen (fetch s) (fun _ => step s) = step s := by
  have hstep : step s = andThen (fetch s) fun t => exec (fetchedInstr t) t := by simp [step, hh, hc]
  cases hf : fetch s with
  | next t => rfl
  | fault e | refused e => rw [hstep, hf]; rfl

theorem stepUnder_everything (s : State) : stepUnder .everything s = step s := by
  by_cases h : s.halted = true ∨ ¬s.microCounter ≤ 4
  · exact stepUnder_of_not_fetching h _
  · obtain ⟨hh, hc⟩ := not_or.1 h
    rw [Bool.not_eq_true] at hh
    rw [not_not] at hc
    rw [stepUnder_of_fetching hh hc]
    exact andThen_fetch_step hh hc

/-- Settles O60: the switch asks after the whole fetch, which leaves the byte at PC in IR. -/
theorem admissionSwitch : Obligations.AdmissionSwitch := by
  refine ⟨stepUnder_everything, fun mode s hs hh hc => ?_⟩
  obtain ⟨t, ht⟩ := fetch_next hs
  rw [stepUnder_of_fetching hh (by simp [hc]), ht, andThen_next, (fetch_reads hs hc ht).1]

end Admission

end Sys2Proof.Machine

/-! PROOFS. The cycle's statements (40_cycle R130 to R149): the well-formed words, the immediate effects, the whole next
state of a cycle by what its word moves, the clocking and the counter. -/

namespace Sys2Proof.Machine

section Words

/-! ### Well-formed words (40_cycle R132) -/

/-- At most one operation line, said of each two lines (40_cycle R132 (a)). -/
theorem oneOperation_iff (w : CtrlWord) :
    oneOperation w = true ↔
      ∀ l ∈ operationLines.map Prod.fst, ∀ l' ∈ operationLines.map Prod.fst,
        has l w = true → has l' w = true → l = l' := by
  have hnodup : ((operationLines.map Prod.fst).filter (has · w)).Nodup := List.Nodup.filter _ (by decide)
  have hlength : ((operationLines.map Prod.fst).filter (has · w)).length =
      (operationLines.filter fun entry => has entry.1 w).length := by
    rw [List.filter_map, List.length_map]; rfl
  rw [oneOperation, decide_eq_true_eq, ← hlength, ← List.toFinset_card_of_nodup hnodup, Finset.card_le_one]
  simp only [List.mem_toFinset, List.mem_filter]
  exact ⟨fun h l hl l' hl' hs hs' => h l ⟨hl, hs⟩ l' ⟨hl', hs'⟩,
    fun h l ⟨hl, hs⟩ l' ⟨hl', hs'⟩ => h l hl l' hl' hs hs'⟩

/-- Settles O7: the check is the conjunction of the conditions, and a decode step makes it before anything else. -/
theorem wellFormedWordConditions : Obligations.WellFormedWordConditions := by
  intro w
  constructor
  · simp only [WellFormed.controlWord, Bool.and_eq_true, oneOperation_iff]
    simp only [oneStepEach, oneWayEach, oneWriterEach, addressOrCell, Bool.and_eq_true, Bool.or_eq_true,
      Bool.not_eq_true', ← Bool.not_eq_true, and_assoc]
    rfl
  · intro hw s
    exact ⟨_, by rw [wordCycle, decodeWord_refused hw, andThen_refused]⟩

/-- The steps of PC and of SP exclude each other in a well-formed word (40_cycle R132 (b)). -/
theorem oneStepEach_of_controlWord {w : CtrlWord} (hw : WellFormed.controlWord w = true) :
    ¬(has .pcp w = true ∧ has .pcm w = true) ∧ ¬(has .spp w = true ∧ has .spm w = true) ∧
      ¬(has .spr w = true ∧ (has .spp w = true ∨ has .spm w = true)) := by
  obtain ⟨-, hpc, hsp, hspr, -⟩ := (wellFormedWordConditions w).1.1 hw
  exact ⟨hpc, hsp, hspr⟩

end Words

section Decoding

/-! ### The immediate part of a decode step (40_cycle R139, R140) -/

/-- The operation a word selects, by its operation lines in line order (40_cycle R130, R139). -/
theorem selectedOp_eq (w : CtrlWord) (old : AluOp) :
    selectedOp w old = if has .sub w then .sub else if has .or w then .or else if has .xor w then .xor
      else if has .and w then .and else if has .not w then .not else if has .shl w then .shiftLeft
      else if has .shr w then .shiftRight else old := by
  simp only [selectedOp, operationLines, List.find?_cons, List.find?_nil]
  split_ifs <;> simp_all

/-- The whole immediate part of the decode step of a well-formed word, from any state. -/
theorem afterDecode_eq {w : CtrlWord} (hw : WellFormed.controlWord w = true) (s : State) :
    afterDecode w s = { s with
      pc := if has .pcp w then s.pc + 1#8 else if has .pcm w then s.pc - 1#8 else s.pc
      sp := if has .spp w then s.sp + 1#8 else if has .spm w then s.sp - 1#8
        else if has .spr w then stackTop else s.sp
      x := if has .x1 w then 1#8 else s.x
      aluOp := selectedOp w s.aluOp
      alu := aluResult (selectedOp w s.aluOp) s.a (if has .x1 w then 1#8 else s.x)
      aluFlags := aluFlagResult (selectedOp w s.aluOp) s.a (if has .x1 w then 1#8 else s.x)
      flagLatch := has .alo w } := by
  obtain ⟨hpc, hsp, hspr⟩ := oneStepEach_of_controlWord hw
  have epc : (immediateEffects w s).pc =
      if has .pcp w then s.pc + 1#8 else if has .pcm w then s.pc - 1#8 else s.pc := by
    rw [immediateEffects_pc]; split_ifs <;> simp_all
  have esp : (immediateEffects w s).sp = if has .spp w then s.sp + 1#8 else if has .spm w then s.sp - 1#8
      else if has .spr w then stackTop else s.sp := by
    rw [immediateEffects_sp]; split_ifs <;> simp_all
  rw [afterDecode, immediateEffects_eq, epc, esp, immediateEffects_x]
  rfl

/-- The marking of a decode step writes no field that its immediate part reads or writes. -/
theorem decoded_eq (w : CtrlWord) (s : State) :
    decoded w s = { afterDecode w s with
      activeWord := w
      pending := setAll (setAll s.pending (transmitters w) .transmit) (receivers w) .receive
      txList := s.txList ++ transmitters w
      rxList := s.rxList ++ receivers w } := by
  rw [decoded, afterDecode, immediateEffects_eq, immediateEffects_eq w s]
  simp only [immediateEffects_pc, immediateEffects_sp, immediateEffects_x]
  rfl

end Decoding

section Cycles

/-! ### The whole next state of a cycle, by what its word moves -/

/-- The registers and the memory of `d`, all other state of `f`. -/
def State.withData (f d : State) : State :=
  { f with
    a := d.a, b := d.b, x := d.x, pc := d.pc, sp := d.sp, ir := d.ir, opd := d.opd, mar := d.mar, alu := d.alu
    flg := d.flg, mem := d.mem }

theorem eq_withData {f d : State} (hreg : ∀ r, getReg f r = getReg d r) (hmem : f.mem = d.mem) : f = f.withData d := by
  have h := And.intro (hreg .a) <| And.intro (hreg .b) <| And.intro (hreg .x) <| And.intro (hreg .pc) <|
    And.intro (hreg .sp) <| And.intro (hreg .ir) <| And.intro (hreg .opd) <| And.intro (hreg .mar) <|
    And.intro (hreg .alu) (hreg .flg)
  cases f
  simp_all [getReg, State.withData]

/-- What a component takes reads and writes registers and memory only. -/
theorem componentTake_withData (f d : State) (c : Component) (v : Byte) :
    componentTake (f.withData d) c v = f.withData (componentTake d c v) := by
  cases c with
  | reg r => cases r <;> rfl
  | mem => rfl

theorem takeAll_withData (cs : List Component) (v : Byte) (f d : State) :
    takeAll cs v (f.withData d) = f.withData (takeAll cs v d) := by
  induction cs generalizing d with
  | nil => rfl
  | cons c rest ih => rw [takeAll, takeAll, componentTake_withData, ih]

theorem takeAll_eq_withData (cs : List Component) (v : Byte) (d : State) :
    takeAll cs v d = d.withData (takeAll cs v d) :=
  takeAll_withData cs v d d

/-- What the cycle of a word with the one transmitter `c` leaves: the receivers take its byte, the flags are latched,
the output and the bus copy get the byte (40_cycle R139 to R148). -/
def moved (w : CtrlWord) (c : Component) (s : State) : State :=
  let v := componentValue (afterDecode w s) c
  let t := takeAll (receivers w) v (afterDecode w s)
  { t with
    activeWord := w
    aluOp := .add
    flagLatch := false
    flg := if has .alo w then flagByte (afterDecode w s).aluFlags else s.flg
    lastBusValue := v
    out := if has .out w then s.out ++ [(outputSelector t.ir, v)] else s.out
    microCounter := if has .rst w then 0 else s.microCounter + 1 }

/-- What the cycle of a word that moves nothing leaves. -/
def idled (w : CtrlWord) (s : State) : State :=
  { afterDecode w s with
    activeWord := w
    aluOp := .add
    flagLatch := false
    lastBusValue := s.idleBusValue
    microCounter := if has .rst w then 0 else s.microCounter + 1 }

/-- What the cycle of a halt word leaves (40_cycle R137, R148, R149). -/
def halting (w : CtrlWord) (s : State) : State :=
  { s with
    activeWord := w
    halted := true
    lastBusValue := s.idleBusValue
    microCounter := if has .rst w then 0 else s.microCounter + 1 }

/-! What a decode step's immediate part leaves as it was, or sets by a line alone. -/

@[simp] theorem afterDecode_flg (w : CtrlWord) (s : State) : (afterDecode w s).flg = s.flg := by simp [afterDecode]
@[simp] theorem afterDecode_mar (w : CtrlWord) (s : State) : (afterDecode w s).mar = s.mar := by simp [afterDecode]
@[simp] theorem afterDecode_mem (w : CtrlWord) (s : State) : (afterDecode w s).mem = s.mem := by simp [afterDecode]
@[simp] theorem afterDecode_read (w : CtrlWord) (s : State) (addr : Byte) :
    (afterDecode w s).read addr = s.read addr := by simp [State.read]
@[simp] theorem afterDecode_busValue (w : CtrlWord) (s : State) : (afterDecode w s).busValue = s.busValue := by
  simp [afterDecode]
@[simp] theorem afterDecode_busHasValue (w : CtrlWord) (s : State) :
    (afterDecode w s).busHasValue = s.busHasValue := by simp [afterDecode]
@[simp] theorem afterDecode_pending (w : CtrlWord) (s : State) : (afterDecode w s).pending = s.pending := by
  simp [afterDecode]
@[simp] theorem afterDecode_txList (w : CtrlWord) (s : State) : (afterDecode w s).txList = s.txList := by
  simp [afterDecode]
@[simp] theorem afterDecode_rxList (w : CtrlWord) (s : State) : (afterDecode w s).rxList = s.rxList := by
  simp [afterDecode]
@[simp] theorem afterDecode_microCounter (w : CtrlWord) (s : State) :
    (afterDecode w s).microCounter = s.microCounter := by simp [afterDecode]
@[simp] theorem afterDecode_halted (w : CtrlWord) (s : State) : (afterDecode w s).halted = s.halted := by
  simp [afterDecode]
@[simp] theorem afterDecode_out (w : CtrlWord) (s : State) : (afterDecode w s).out = s.out := by simp [afterDecode]
@[simp] theorem afterDecode_idleBusValue (w : CtrlWord) (s : State) :
    (afterDecode w s).idleBusValue = s.idleBusValue := by simp [afterDecode]
@[simp] theorem afterDecode_flagLatch (w : CtrlWord) (s : State) : (afterDecode w s).flagLatch = has .alo w := by
  simp [afterDecode]

/-- The state after the transfer, in terms of the immediate part of the decode step alone. -/
theorem transferred_eq (w : CtrlWord) (c : Component) (s : State) :
    transferred w c s =
      { (afterDecode w s).withData (takeAll (receivers w) (componentValue (afterDecode w s) c) (afterDecode w s)) with
        activeWord := w
        busValue := componentValue (afterDecode w s) c
        busHasValue := true
        pending := Markings.clear
        txList := []
        rxList := [] } := by
  have hdata : transmitted w c s = (transmitted w c s).withData (afterDecode w s) := by
    refine eq_withData (fun r => ?_) (by simp [transmitted])
    rw [← getReg_decoded]
    cases r <;> rfl
  rw [transferred, hdata, takeAll_withData, transmitted, componentValue_decoded, decoded_eq]
  rfl

/-- No cycle's transfer writes the flags (40_cycle R131). -/
theorem takeAll_receivers_flg (w : CtrlWord) (v : Byte) (s : State) : (takeAll (receivers w) v s).flg = s.flg := by
  simpa [getReg, flg_not_mem_receivers] using getReg_takeAll (receivers w) v s .flg

theorem wordCycle_eq_moved {w : CtrlWord} {c : Component} {s : State} (hs : s.AtRest)
    (hw : WellFormed.controlWord w = true) (hh : has .hlt w = false) (ht : transmitters w = [c]) :
    wordCycle w s = .next (moved w c s) := by
  rw [wordCycle_one hs hw hh ht, transferred_eq, moved, takeAll_eq_withData]
  obtain ⟨hb, hv, hp, htx, hrx, -, -⟩ := hs
  congr 1
  by_cases ho : has .out w = true <;>
    simp [closed, emit, cacheBus, clockLatches, busClockReset, advanceCounter, State.withData, takeAll_receivers_flg,
      ho, hb, hv, hp, htx, hrx]

/-- A word that transmits nothing has no transmit line. -/
theorem alo_of_transmitters_nil {w : CtrlWord} (ht : transmitters w = []) : has .alo w = false := by
  have hmem : Component.reg .alu ∉ transmitters w := by simp [ht]
  simpa [transmitters, mem_marked, transmitLines] using hmem

theorem wordCycle_eq_idled {w : CtrlWord} {s : State} (hs : s.AtRest) (hw : WellFormed.controlWord w = true)
    (hh : has .hlt w = false) (ht : transmitters w = []) (hr : receivers w = []) (ho : has .out w = false) :
    wordCycle w s = .next (idled w s) := by
  have halo : has .alo w = false := alo_of_transmitters_nil ht
  rw [wordCycle_idle hs hw hh ht hr ho, decoded_eq, ht, hr]
  obtain ⟨hb, hv, hp, htx, hrx, -, -⟩ := hs
  congr 1
  simp [closed, cacheBus, clockLatches, busClockReset, advanceCounter, idled, setAll, halo, hb, hv, hp, htx, hrx]

theorem wordCycle_eq_halting {w : CtrlWord} {s : State} (hs : s.AtRest) (hw : WellFormed.controlWord w = true)
    (hh : has .hlt w = true) (ho : has .out w = false) : wordCycle w s = .next (halting w s) := by
  rw [wordCycle_halt hs hw hh ho]
  obtain ⟨hb, hv, -, -, -, hop, hlatch⟩ := hs
  congr 1
  cases s
  simp_all [closed, cacheBus, clockLatches, busClockReset, advanceCounter, halting]

/-! ### Execute steps that fail -/

/-- Nothing is marked and the output reads the empty bus (60_exceptions R313). -/
theorem executeStep_unwritten_output {s : State} (htx : s.txList = []) (hrx : s.rxList = [])
    (hb : s.busHasValue = false) (ho : has .out s.activeWord = true) :
    executeStep s = .fault (.busUnwritten .outLine) := by
  rw [executeStep, transfer_idle htx hrx, andThen_next, output_fault (by simpa using hb) (by simpa using ho),
    andThen_fault]

/-- No transmitter, so the first receiver reads the empty bus (60_exceptions R313, R319). -/
theorem executeStep_unwritten_receiver {c : Component} {rest : List Component} {s : State} (htx : s.txList = [])
    (hrx : s.rxList = c :: rest) (hc : pendingOf s.pending c = .receive) (hb : s.busHasValue = false) :
    executeStep s = .fault (.busUnwritten (.component c)) := by
  rw [executeStep, transfer, htx, resolveAll, andThen_next, hrx, resolveAll, resolve_unwritten hc hb]
  rfl

/-- Two components that transmit: the second finds the byte of the first on the bus (60_exceptions R312, R319). -/
theorem executeStep_conflict {c c' : Component} {rest : List Component} {s : State} (htx : s.txList = c :: c' :: rest)
    (hne : c' ≠ c) (hc : pendingOf s.pending c = .transmit) (hc' : pendingOf s.pending c' = .transmit)
    (hb : s.busHasValue = false) : executeStep s = .fault (.busConflict c') := by
  rw [executeStep, transfer, htx, resolveAll, resolve_transmit hc hb, andThen_next, resolveAll,
    resolve_conflict (by rw [pendingOf_setPending, if_neg hne, hc']) rfl]
  rfl

/-- A halt word marks nothing, so its output reads the empty bus (40_cycle R137; 60_exceptions R313; log 13). -/
theorem wordCycle_halt_output {w : CtrlWord} {s : State} (hs : s.AtRest) (hw : WellFormed.controlWord w = true)
    (hh : has .hlt w = true) (ho : has .out w = true) : wordCycle w s = .fault (.busUnwritten .outLine) := by
  obtain ⟨hb, -, -, htx, hrx, -, -⟩ := hs
  rw [wordCycle, decodeWord_halt hw hh, andThen_next]
  exact executeStep_unwritten_output htx hrx hb ho

/-! ### What a cycle that succeeds can be -/

/-- A cycle that succeeds from a state between cycles, whatever its word: one of a halt word, one that moves a byte, or
one that moves nothing. -/
theorem wordCycle_next_cases {w : CtrlWord} {s t : State} (hs : s.AtRest) (h : wordCycle w s = .next t) :
    (has .hlt w = true ∧ t = halting w s) ∨
      has .hlt w = false ∧ ((∃ c, t = moved w c s) ∨ transmitters w = [] ∧ t = idled w s) := by
  have ⟨hb, _, hp, htx, hrx, _, _⟩ := hs
  cases hw : WellFormed.controlWord w with
  | false => simp [wordCycle, decodeWord_refused hw] at h
  | true =>
    cases hh : has .hlt w with
    | true =>
      cases ho : has .out w with
      | true =>
        rw [wordCycle_halt_output hs hw hh ho] at h
        cases h
      | false =>
        rw [wordCycle_eq_halting hs hw hh ho] at h
        cases h
        exact .inl ⟨rfl, rfl⟩
    | false =>
      refine .inr ⟨rfl, ?_⟩
      match ht : transmitters w, hr : receivers w, ho : has .out w with
      | c :: c' :: rest, _, _ =>
        have hnodup := transmitters_nodup w
        have hpending : ∀ d ∈ transmitters w, pendingOf (decoded w s).pending d = .transmit := fun d hd => by
          simp [pendingOf_setAll, hd, not_mem_receivers hw hd]
        rw [wordCycle, decodeWord_next hw hh, andThen_next, executeStep_conflict (by simpa [htx] using ht)
          (by rintro rfl; simp [ht] at hnodup) (hpending c (by simp [ht])) (hpending c' (by simp [ht]))
          (by simpa using hb)] at h
        cases h
      | [c], _, _ =>
        rw [wordCycle_eq_moved hs hw hh ht] at h
        cases h
        exact .inl ⟨c, rfl⟩
      | [], c :: rest, _ =>
        rw [wordCycle, decodeWord_next hw hh, andThen_next, executeStep_unwritten_receiver (by simpa [htx] using ht)
          (by simpa [hrx] using hr) (by simp [pendingOf_setAll, hr]) (by simpa using hb)] at h
        cases h
      | [], [], true =>
        rw [wordCycle, decodeWord_next hw hh, andThen_next, executeStep_unwritten_output (by simpa [htx] using ht)
          (by simpa [hrx] using hr) (by simpa using hb) (by simpa using ho)] at h
        cases h
      | [], [], false =>
        rw [wordCycle_eq_idled hs hw hh ht hr ho] at h
        cases h
        exact .inr ⟨rfl, rfl⟩

/-! ### The statements -/

/-- Settles O8: nothing is marked, so the bus stays empty and only the output can read it. -/
theorem haltWordStopsDecodeStep : Obligations.HaltWordStopsDecodeStep := by
  intro w s hs hw hh
  exact ⟨decodeWord_halt hw hh s, wordCycle_halt_output hs hw hh, wordCycle_eq_halting hs hw hh⟩

/-- MAR and the memory do not both receive in a well-formed word (40_cycle R132 (e)). -/
theorem not_mar_and_mem_mem_receivers {w : CtrlWord} (hw : WellFormed.controlWord w = true) :
    ¬(Component.reg .mar ∈ receivers w ∧ Component.mem ∈ receivers w) := by
  obtain ⟨-, -, -, -, -, -, -, -, -, -, -, -, haddress⟩ := (wellFormedWordConditions w).1.1 hw
  simpa [receivers, mem_marked, receiveLines] using haddress

/-- A register after the cycle of a word with one transmitter. -/
theorem getReg_moved {r : Reg} (hr : r ≠ .flg) (w : CtrlWord) (c : Component) (s : State) :
    getReg (moved w c s) r =
      if .reg r ∈ receivers w then componentValue (afterDecode w s) c else getReg (afterDecode w s) r := by
  rw [← getReg_takeAll]
  cases r
  case flg => exact absurd rfl hr
  all_goals rfl

/-- Settles O13: the receivers take the byte one by one; the memory's address does not change while they do. -/
theorem singleTransmitterFeedsAllReceivers : Obligations.SingleTransmitterFeedsAllReceivers := by
  intro w s c hs hwf hw hh ht
  refine ⟨_, wordCycle_eq_moved hs hw hh ht, fun r hr => ?_, fun r hr hflg => ?_, fun addr => ?_, rfl, rfl, ?_⟩
  · have hflg : r ≠ .flg := fun h => flg_not_mem_receivers w (h ▸ hr)
    rw [getReg_moved hflg, if_pos hr]
  · rw [getReg_moved hflg, if_neg hr]
  · have hread := takeAll_read (receivers w) (componentValue (afterDecode w s) c) (afterDecode w s) (by simpa using hwf)
      (not_mar_and_mem_mem_receivers hw) addr
    rw [afterDecode_mar, afterDecode_read] at hread
    exact hread
  · simp [moved, takeAll_keeps]

/-- Settles O14: the bits of the word are its lines; a cycle that moves nothing ends as the decode step left it. -/
theorem immediateEffectsAndIdleWord : Obligations.ImmediateEffectsAndIdleWord := by
  refine ⟨fun w s hw => ?_, fun w s hs hw hh ht hr ho => ?_⟩
  · rw [afterDecode_eq hw, selectedOp_eq]
    rfl
  · rw [wordCycle_eq_idled hs hw hh ht hr ho]
    rfl

/-- The bus is empty and the ALU's cycle-local state at its default after any cycle that succeeds (40_cycle R146,
R147). -/
theorem wordCycle_clocked {w : CtrlWord} {s t : State} (h : wordCycle w s = .next t) :
    t.flagLatch = false ∧ t.aluOp = .add ∧ t.busHasValue = false ∧ t.busValue = 0#8 := by
  obtain ⟨u, -, h⟩ := andThen_eq_next.1 h
  obtain ⟨_, v, -, -, rfl⟩ := executeStep_eq_next.1 h
  exact ⟨rfl, rfl, rfl, rfl⟩

/-- Settles O15: `ALO` is a transmit line, so a cycle that moves nothing has none, and a halting cycle does not see
it. -/
theorem flagsLatchedOnlyWithAluOutput : Obligations.FlagsLatchedOnlyWithAluOutput := by
  intro w s t hs h
  obtain ⟨hlatch, hop, hb, hv⟩ := wordCycle_clocked h
  suffices hdata : t.flg = (if has .alo w = true ∧ has .hlt w = false then flagByte (afterDecode w s).aluFlags
      else s.flg) ∧ t.alu = (if has .hlt w = true then s.alu else (afterDecode w s).alu) by
    obtain ⟨hflg, halu⟩ := hdata
    refine ⟨fun ha => ?_, fun ha => by rw [hflg, if_neg ha], hlatch, hop, halu, hb, hv⟩
    rw [hflg, if_pos ha]
    exact ⟨rfl, flagByte_clean _⟩
  rcases wordCycle_next_cases hs h with ⟨hh, rfl⟩ | ⟨hh, ⟨c, rfl⟩ | ⟨ht, rfl⟩⟩
  · simp [halting, hh]
  · have halu := getReg_moved (r := .alu) (by decide) w c s
    rw [if_neg (alu_not_mem_receivers w)] at halu
    exact ⟨by simp [moved, hh], by simpa [hh, getReg] using halu⟩
  · simp [idled, hh, alo_of_transmitters_nil ht]

end Cycles

section ExecuteSteps

/-! ### What every execute step that succeeds does (40_cycle R143, R147, R148) -/

theorem output_eq_next {s t : State} (h : output s = .next t) : t = emit s := by
  have hgoes : s.busHasValue = true ∨ has .out s.activeWord = false := by
    by_contra hno
    simp only [not_or, Bool.not_eq_true, Bool.not_eq_false] at hno
    rw [output_fault hno.1 hno.2] at h
    cases h
  rw [output_next hgoes] at h
  cases h
  rfl

/-- The sequencer and the lists after an execute step, from any state. -/
theorem executeStep_keeps {s t : State} (h : executeStep s = .next t) :
    t.microCounter = (if has .rst s.activeWord then 0 else s.microCounter + 1) ∧ t.txList = [] ∧ t.rxList = [] ∧
      t.busHasValue = false ∧ t.busValue = 0#8 := by
  obtain ⟨u, v, hu, hv, rfl⟩ := executeStep_eq_next.1 h
  obtain ⟨r, r', hr, hr', rfl⟩ := transfer_eq_next.1 hu
  obtain ⟨hword, hcounter, -⟩ := resolveAll_keeps hr
  obtain ⟨hword', hcounter', -⟩ := resolveAll_keeps hr'
  rw [output_eq_next hv]
  simp [closed, hword, hcounter, hword', hcounter']

/-- Settles O16: the transfer and the output keep the active word and the counter; the ROM's programs end with `RST`. -/
theorem counterAdvancesOrResets : Obligations.CounterAdvancesOrResets := by
  refine ⟨fun s t h => ?_, fun ir flg => ⟨(rom_length ir flg).2, ?_⟩⟩
  · obtain ⟨hcounter, -⟩ := executeStep_keeps h
    rw [hcounter]
    split_ifs
    · rfl
    · rw [Fin.val_add]; rfl
  · obtain ⟨init, last, hrom, hrst, -⟩ := rom_eq_concat ir flg
    exact ⟨last, by simp [hrom], hrst⟩

/-- Settles O17: the transfer empties the lists and the clocking empties the bus. -/
theorem busEmptyAfterExecuteStep : Obligations.BusEmptyAfterExecuteStep := by
  intro s t h
  obtain ⟨-, htx, hrx, hb, hv⟩ := executeStep_keeps h
  exact ⟨hb, hv, htx, hrx⟩

/-- Settles O18: the decode step looks at `halted` first. -/
theorem haltedDecodeStepDoesNothing : Obligations.HaltedDecodeStepDoesNothing := by
  intro s hh
  rw [decodeStep, if_pos hh]

/-- Settles O19: the cycle is that of the active halt word, whose every effect is already there. -/
theorem haltedMachineIsFixed : Obligations.HaltedMachineIsFixed := by
  intro s hs hh hword hcounter hlast
  have hcycle : cycle s = .next s := by
    rw [cycle_eq_wordCycle_of_halted hh hword rfl rfl, wordCycle_eq_halting hs rfl rfl rfl]
    congr 1
    cases s
    simp_all [halting, has, lineBit]
  exact ⟨hcycle, by rw [step, if_pos hh, hcycle]⟩

end ExecuteSteps

end Sys2Proof.Machine

/-! PROOFS. The markings' statements (40_cycle R138, R151 to R153) and the host's protocol (40_cycle R160; 60_exceptions
R318, R327, R330): what marks a component, what the marked components do in any order, what a host sees. -/

namespace Sys2Proof.Machine

section Markings

/-! ### What a marking does (40_cycle R138, R151, R152; 60_exceptions R314) -/

theorem canTransmit_of_ne {c : Component} (hir : c ≠ .reg .ir) (hmar : c ≠ .reg .mar) (hflg : c ≠ .reg .flg) :
    canTransmit c = true := by
  match c with
  | .reg .ir => exact absurd rfl hir
  | .reg .mar => exact absurd rfl hmar
  | .reg .flg => exact absurd rfl hflg
  | .reg .a | .reg .b | .reg .x | .reg .pc | .reg .sp | .reg .opd | .reg .alu | .mem => rfl

/-- The components of a table's lines, by the lines' bit numbers (40_cycle R130). -/
theorem marked_eq_filterMap (table : List (Line × Component)) (w : CtrlWord) :
    marked table w = List.filterMap (fun entry : Nat × Component => if w.getLsbD entry.1 then some entry.2 else none)
      (table.map fun entry => (lineBit entry.1, entry.2)) := by
  induction table with
  | nil => rfl
  | cons entry rest ih =>
    obtain ⟨l, c⟩ := entry
    rw [marked_cons, ih, List.map_cons, List.filterMap_cons]
    cases h : has l w <;> simp [has] at h <;> simp [h]

theorem decodeWord_ne_fault (w : CtrlWord) (s : State) (e : Fault) : decodeWord w s ≠ .fault e := by
  cases hw : WellFormed.controlWord w with
  | false => rw [decodeWord_refused hw]; simp
  | true =>
    cases hh : has .hlt w with
    | true => rw [decodeWord_halt hw hh]; simp
    | false => rw [decodeWord_next hw hh]; simp

theorem pendingOf_decoded {w : CtrlWord} {s : State} (hs : s.AtRest) (hw : WellFormed.controlWord w = true)
    (c : Component) :
    pendingOf (decoded w s).pending c =
      if c ∈ transmitters w then .transmit else if c ∈ receivers w then .receive else .none := by
  obtain ⟨-, -, hp, -, -, -, -⟩ := hs
  rw [decoded_pending, pendingOf_setAll, pendingOf_setAll, hp, pendingOf_clear]
  by_cases ht : c ∈ transmitters w
  · rw [if_neg (not_mem_receivers hw ht), if_pos ht, if_pos ht]
  · rw [if_neg ht, if_neg ht]

/-! ### A harness's marks -/

/-- Between cycles and between the two sub-steps a mark is a harness's mark (40_cycle R153; log 25). -/
theorem hostMove_mark {p : Phase} (hp : p = .between ∨ p = .marked) (c : Component) (s : State) :
    hostMove (.markTransmit c) ⟨s, p⟩ = harnessMark c .transmit s ∧
      hostMove (.markReceive c) ⟨s, p⟩ = harnessMark c .receive s := by
  rcases hp with rfl | rfl <;> exact ⟨rfl, rfl⟩

theorem harnessMark_receive {c : Component} {s : State} (h : pendingOf s.pending c ≠ .transmit) :
    harnessMark c .receive s = .ok ⟨markReceive c s, .marked⟩ .done := by
  unfold harnessMark
  cases hc : pendingOf s.pending c <;> simp_all [afterSubStep]

theorem harnessMark_transmit {c : Component} {s : State} (h : pendingOf s.pending c ≠ .receive) :
    harnessMark c .transmit s = afterSubStep s .marked (markTransmit c s) := by
  unfold harnessMark
  cases hc : pendingOf s.pending c <;> simp_all

theorem harnessMark_bothWays {c : Component} {s : State} {way : PendingAction}
    (h : pendingOf s.pending c = .receive ∧ way = .transmit ∨ pendingOf s.pending c = .transmit ∧ way = .receive) :
    harnessMark c way s = .refused (.markedBothWays c) := by
  rcases h with ⟨hc, rfl⟩ | ⟨hc, rfl⟩ <;> simp [harnessMark, hc]

/-- Settles O9: a decode step marks only components that may transmit, and none both ways; a harness marks one at a
time. -/
theorem markingRules : Obligations.MarkingRules := by
  refine ⟨fun r s hr => ?_, fun c s hir hmar hflg => markTransmit_next (canTransmit_of_ne hir hmar hflg) s,
    fun c d s => ⟨rfl, pendingOf_setPending ..⟩, decodeWord_ne_fault,
    fun w => ⟨marked_eq_filterMap transmitLines w, marked_eq_filterMap receiveLines w⟩, fun w s hs hw hh => ?_,
    fun c s p hp => ?_⟩
  · rcases hr with rfl | rfl | rfl <;> exact markTransmit_forbidden rfl s
  · have ⟨_, _, _, htx, hrx, _, _⟩ := hs
    exact ⟨_, decodeWord_next hw hh s, by simp [htx], by simp [hrx], pendingOf_decoded hs hw⟩
  · obtain ⟨htransmit, hreceive⟩ := hostMove_mark hp c s
    rw [htransmit, hreceive]
    refine ⟨harnessMark_receive, fun h => harnessMark_bothWays (.inr ⟨h, rfl⟩),
      fun h => harnessMark_bothWays (.inl ⟨h, rfl⟩), fun h => ?_⟩
    rw [harnessMark_transmit h]
    exact ⟨fun t ht => by rw [ht]; rfl, fun e he => by rw [he]; rfl⟩

end Markings

section DirectMarking

/-! ### Receivers marked by a harness, in any order and more than once (40_cycle R142, R153; log 23) -/

/-- What resolving the receivers `cs` leaves when the bus holds `v`: each that is still marked takes the byte at its
first place in the list, the memory at MAR as it is at that place. -/
structure Received (cs : List Component) (v : Byte) (s t : State) : Prop where
  register : ∀ r, getReg t r = if .reg r ∈ cs ∧ pendingOf s.pending (.reg r) = .receive then v else getReg s r
  memory : ∀ addr, t.read addr =
    if (.mem ∈ cs ∧ pendingOf s.pending .mem = .receive) ∧
        addr = (if pendingOf s.pending (.reg .mar) = .receive ∧ cs.idxOf (.reg .mar) < cs.idxOf .mem then v else s.mar)
    then v else s.read addr
  busValue : t.busValue = s.busValue
  busHasValue : t.busHasValue = true
  flagLatch : t.flagLatch = s.flagLatch

theorem getReg_unmark (c : Component) (s : State) (r : Reg) : getReg (unmark c s) r = getReg s r := by cases r <;> rfl

theorem unmark_read (c : Component) (s : State) (addr : Byte) : (unmark c s).read addr = s.read addr := rfl

theorem componentTake_reg_read (r : Reg) (v : Byte) (s : State) (addr : Byte) :
    (componentTake s (.reg r) v).read addr = s.read addr := by simp [componentTake, State.read]

/-- A component whose marking is cleared, because it stood in the list before, takes nothing. -/
theorem Received.cons_of_none {c : Component} {rest : List Component} {v : Byte} {s t : State}
    (hc : pendingOf s.pending c = .none) (got : Received rest v s t) : Received (c :: rest) v s t := by
  refine ⟨fun r => ?_, fun addr => ?_, got.busValue, got.busHasValue, got.flagLatch⟩
  · rw [got.register]
    by_cases hr : Component.reg r = c
    · subst hr; simp [hc]
    · simp [hr]
  · rw [got.memory]
    by_cases hm : Component.mem = c
    · subst hm; simp [hc]
    · by_cases hmar : Component.reg .mar = c
      · subst hmar; simp [hc]
      · simp [Ne.symm hm, Ne.symm hmar, hm]

/-- A marked component takes the byte; if it is MAR, the memory is addressed by that byte from here on. -/
theorem Received.cons_of_receive {c : Component} {rest : List Component} {v : Byte} {s t : State}
    (hwf : s.mem.wf = true) (hc : pendingOf s.pending c = .receive)
    (got : Received rest v (unmark c (componentTake s c v)) t) : Received (c :: rest) v s t := by
  refine ⟨fun r => ?_, fun addr => ?_, by rw [got.busValue]; simp, got.busHasValue, by rw [got.flagLatch]; simp⟩
  · rw [got.register, getReg_unmark, getReg_componentTake]
    by_cases hr : c = .reg r
    · subst hr; simp [hc]
    · simp [pendingOf_setPending, hr, Ne.symm hr]
  · rw [got.memory, unmark_mar, unmark_read]
    cases c with
    | mem => simp [pendingOf_setPending, hc, componentTake, State.read, memRead_memWrite hwf]
    | reg q =>
      rw [componentTake_reg_read]
      by_cases hq : q = .mar
      · subst hq; simp [pendingOf_setPending, hc, componentTake]
      · have hmar : (componentTake s (.reg q) v).mar = s.mar := by
          simpa [getReg, hq] using getReg_componentTake s (.reg q) v .mar
        simp [pendingOf_setPending, hq, Ne.symm hq, hmar]

theorem resolveAll_received {cs : List Component} {v : Byte} {s : State} (hwf : s.mem.wf = true)
    (hb : s.busHasValue = true) (hv : s.busValue = v) (hp : ∀ c ∈ cs, pendingOf s.pending c ≠ .transmit) :
    ∃ t, resolveAll cs s = .next t ∧ Received cs v s t := by
  induction cs generalizing s with
  | nil => exact ⟨s, rfl, by simp, by simp, rfl, hb, rfl⟩
  | cons c rest ih =>
    have hrest : ∀ d ∈ rest, pendingOf s.pending d ≠ .transmit := fun d hd => hp d (by simp [hd])
    rw [resolveAll]
    match hc : pendingOf s.pending c with
    | .transmit => exact absurd hc (hp c (by simp))
    | .none =>
      obtain ⟨t, ht, got⟩ := ih hwf hb hv hrest
      exact ⟨t, by rw [resolve_none hc, andThen_next, ht], got.cons_of_none hc⟩
    | .receive =>
      have hpending : ∀ d ∈ rest, pendingOf (unmark c (componentTake s c v)).pending d ≠ .transmit := fun d hd => by
        simp only [unmark_pending, componentTake_pending, pendingOf_setPending]
        split_ifs
        · simp
        · exact hrest d hd
      obtain ⟨t, ht, got⟩ := ih (s := unmark c (componentTake s c v)) (by simpa using componentTake_wf hwf c v)
        (by simpa using hb) (by simpa using hv) hpending
      exact ⟨t, by rw [resolve_receive hc hb, andThen_next, hv, ht], got.cons_of_receive hwf hc⟩

/-- What the one transmitter leaves: its byte on the bus, and its marking cleared (40_cycle R141, R151). -/
def sent (c : Component) (s : State) : State :=
  { s with busValue := componentValue s c, busHasValue := true, pending := setPending s.pending c .none }

/-- A component marked to transmit, once or more often, puts its byte on the bus once (40_cycle R141; log 23). -/
theorem resolveAll_transmits_once {c : Component} (k : Nat) {s : State} (hc : pendingOf s.pending c = .transmit)
    (hb : s.busHasValue = false) :
    resolveAll (c :: List.replicate k c) s = .next (sent c s) := by
  have hskip : ∀ (k : Nat) (u : State), pendingOf u.pending c = .none →
      resolveAll (List.replicate k c) u = .next u := by
    intro k u hu
    induction k with
    | zero => rfl
    | succ k ih => rw [List.replicate_succ, resolveAll, resolve_none hu, andThen_next, ih]
  rw [resolveAll, resolve_transmit hc hb, andThen_next, hskip k _ (by simp [pendingOf_setPending]), sent]

theorem canTransmit_of_readable {c : Component} (h : ∀ r, c = .reg r → readable r = true) : canTransmit c = true := by
  cases c with
  | reg r => exact h r rfl
  | mem => rfl

/-- Where the memory is resolved at: the byte on the bus if MAR took it before, MAR as it was if not. -/
def resolvedAddress (cs : List Component) (v mar : Byte) : Byte :=
  if cs.idxOf (.reg .mar) < cs.idxOf .mem then v else mar

theorem Received.register_of_marked {cs : List Component} {v : Byte} {s t : State} (got : Received cs v s t)
    (hcs : ∀ d ∈ cs, pendingOf s.pending d = .receive) (r : Reg) :
    getReg t r = if .reg r ∈ cs then v else getReg s r := by
  rw [got.register]
  exact if_congr (and_iff_left_of_imp (hcs _)) rfl rfl

theorem Received.memory_of_marked {cs : List Component} {v : Byte} {s t : State} (got : Received cs v s t)
    (hcs : ∀ d ∈ cs, pendingOf s.pending d = .receive) (addr : Byte) :
    t.read addr = if .mem ∈ cs ∧ addr = resolvedAddress cs v s.mar then v else s.read addr := by
  have hmar : cs.idxOf (.reg .mar) < cs.idxOf .mem → pendingOf s.pending (.reg .mar) = .receive := fun h =>
    hcs _ (List.idxOf_lt_length_iff.1 (h.trans_le List.idxOf_le_length))
  rw [got.memory, resolvedAddress]
  simp only [and_iff_left_of_imp (hcs .mem), and_iff_right_of_imp hmar]

/-- The state with other markings and lists, which no component's value depends on. -/
def withMarks (m : Markings) (txs rxs : List Component) (s : State) : State :=
  { s with pending := m, txList := txs, rxList := rxs }

theorem getReg_withMarks (m : Markings) (txs rxs : List Component) (s : State) (r : Reg) :
    getReg (withMarks m txs rxs s) r = getReg s r := by cases r <;> rfl

theorem componentValue_withMarks (m : Markings) (txs rxs : List Component) (s : State) (c : Component) :
    componentValue (withMarks m txs rxs s) c = componentValue s c := by
  cases c with
  | reg r => exact getReg_withMarks m txs rxs s r
  | mem => rfl

/-- The execute step when one component is marked to transmit, once or more often, and any others to receive. -/
theorem executeStep_one_transmitter {c : Component} {k : Nat} {cs : List Component} {s : State} (hwf : s.mem.wf = true)
    (htx : s.txList = c :: List.replicate k c) (hrx : s.rxList = cs) (hc : pendingOf s.pending c = .transmit)
    (hcs : ∀ d ∈ cs, pendingOf s.pending d = .receive) (hb : s.busHasValue = false) (hlatch : s.flagLatch = false) :
    ∃ t, executeStep s = .next t ∧ t.lastBusValue = componentValue s c ∧
      (∀ r, getReg t r = if .reg r ∈ cs then componentValue s c else getReg s r) ∧
      ∀ addr, t.read addr =
        if .mem ∈ cs ∧ addr = resolvedAddress cs (componentValue s c) s.mar then componentValue s c
        else s.read addr := by
  have hpending : ∀ d ∈ cs, pendingOf (sent c s).pending d = .receive := fun d hd => by
    have hne : d ≠ c := by rintro rfl; simp [hcs d hd] at hc
    simp [sent, pendingOf_setPending, hne, hcs d hd]
  obtain ⟨u, hu, got⟩ := resolveAll_received (s := sent c s) (v := componentValue s c) hwf rfl rfl
    fun d hd => by simp [hpending d hd]
  have htransfer : transfer s = .next { u with txList := [], rxList := [] } :=
    transfer_eq_next.2 ⟨sent c s, u, htx ▸ resolveAll_transmits_once k hc hb, hrx ▸ hu, rfl⟩
  have hvalue : u.busValue = componentValue s c := got.busValue
  refine ⟨_, executeStep_eq_next.2 ⟨_, _, htransfer, output_next (.inl got.busHasValue), rfl⟩, ?_, fun r => ?_,
    fun addr => ?_⟩
  · simp [closed, cacheBus, got.busHasValue, hvalue]
  · have hunlatched : u.flagLatch = false := got.flagLatch.trans hlatch
    rw [getReg_closed_of_unlatched (by simp [hunlatched]), getReg_emit, getReg_cacheBus]
    have hu : getReg { u with txList := [], rxList := [] } r = getReg u r := getReg_withMarks u.pending [] [] u r
    have hs : getReg (sent c s) r = getReg s r := by cases r <;> rfl
    rw [hu, got.register_of_marked hpending, hs]
  · have hread : (closed (emit (cacheBus { u with txList := [], rxList := [] }))).read addr = u.read addr := by
      simp [State.read, closed]
    rw [hread]
    exact got.memory_of_marked hpending addr

/-- Settles O20: two transmitters meet on the bus; one is resolved once, and then each receiver at its first place. -/
theorem directMarkingObeysBusRules : Obligations.DirectMarkingObeysBusRules := by
  intro s hs hwf
  obtain ⟨hb, -, -, htx, hrx, -, hlatch⟩ := hs
  refine ⟨fun c c' hne hread => ?_, fun c k cs hread hc => ?_⟩
  · have hcan : ∀ d ∈ [c, c'], canTransmit d = true := by
      simp only [List.forall_mem_cons]
      exact ⟨canTransmit_of_readable fun r hr => hread r (.inl hr),
        canTransmit_of_readable fun r hr => hread r (.inr hr), by simp⟩
    rw [markTransmitters_next hcan, andThen_next]
    exact executeStep_conflict (by rw [htx]; rfl) hne.symm (by simp [pendingOf_setAll]) (by simp [pendingOf_setAll]) hb
  · have hcan : ∀ d ∈ c :: List.replicate k c, canTransmit d = true := fun d hd => by
      rw [← List.replicate_succ] at hd
      rw [List.eq_of_mem_replicate hd]
      exact canTransmit_of_readable hread
    rw [markTransmitters_next hcan, andThen_next, markReceivers_eq]
    change ∃ t, executeStep (withMarks _ (s.txList ++ _) (s.rxList ++ cs) s) = .next t ∧ _
    rw [htx, hrx, List.nil_append, List.nil_append]
    obtain ⟨t, ht, hlast, hreg, hmem⟩ := executeStep_one_transmitter (c := c) (k := k) (cs := cs)
      (s := withMarks (setAll (setAll s.pending (c :: List.replicate k c) .transmit) cs .receive) _ _ s) hwf rfl rfl
      (by simp [withMarks, pendingOf_setAll, hc]) (fun d hd => by simp [withMarks, pendingOf_setAll, hd]) hb hlatch
    simp only [componentValue_withMarks, getReg_withMarks] at hlast hreg hmem
    exact ⟨t, ht, hlast, fun r hr => by rw [hreg, if_pos hr], fun r hr => by rw [hreg, if_neg hr], hmem⟩

end DirectMarking

section Protocol

/-! ### What a host reads (60_exceptions R318, R327, R330) -/

theorem hostMove_read {m : Move} (hm : (∃ r, m = .readRegister r) ∨ m = .readMemory ∨ m = .queryHalted ∨
    m = .queryActive ∨ m = .queryLastBus) (s : State) (p : Phase) : hostMove m ⟨s, p⟩ = readMove m ⟨s, p⟩ := by
  rcases hm with ⟨r, rfl⟩ | rfl | rfl | rfl | rfl <;> cases p <;> rfl

theorem mem_allComponents (c : Component) : c ∈ allComponents := by
  match c with
  | .mem => decide
  | .reg r => cases r <;> decide

theorem mem_activeComponents {s : State} {c : Component} {way : PendingAction} :
    (c, way) ∈ activeComponents s ↔ way ≠ .none ∧ pendingOf s.pending c = way := by
  simp only [activeComponents, List.mem_filter, List.mem_map, Prod.mk.injEq, decide_eq_true_eq]
  constructor
  · rintro ⟨⟨_, -, rfl, hway⟩, hne⟩
    exact ⟨hne, hway⟩
  · rintro ⟨hne, hway⟩
    exact ⟨⟨c, mem_allComponents c, rfl, hway⟩, hne⟩

theorem activeComponents_nodup (s : State) : ((activeComponents s).map Prod.fst).Nodup := by
  have hall : allComponents.Nodup := by decide
  have hfst : (allComponents.map fun c => (c, pendingOf s.pending c)).map Prod.fst = allComponents := by
    simp [List.map_map, Function.comp_def]
  exact (List.filter_sublist.map Prod.fst).nodup (hfst ▸ hall)

theorem imageOf_getElem? (s : State) (addr : Byte) : (imageOf s.mem)[addr.toNat]? = some (s.read addr) := by
  have haddr : addr.toNat < memSize := addr.isLt
  rw [imageOf, List.getElem?_map, List.getElem?_range haddr]
  rfl

/-! ### The two calls of a cycle (40_cycle R133, R160) -/

theorem decodeStep_of_hostMove {s u : State} (h : hostMove .decodeStep ⟨s, .between⟩ = .ok ⟨u, .marked⟩ .done) :
    decodeStep s = .next u := by
  change afterSubStep s .marked (decodeStep s) = _ at h
  cases hd : decodeStep s <;> simp_all [afterSubStep]

theorem executeStep_of_hostMove {s u : State} (h : hostMove .executeStep ⟨s, .marked⟩ = .ok ⟨u, .between⟩ .done) :
    executeStep s = .next u := by
  change afterSubStep (executeResidue s) .between (executeStep s) = _ at h
  cases hd : executeStep s <;> simp_all [afterSubStep]

/-- Settles O59: every move is one of its phase; the two calls are the two parts of `cycle`. -/
theorem hostProtocol : Obligations.HostProtocol := by
  refine ⟨fun s => ⟨rfl, rfl, rfl, fun _ => rfl⟩, fun s e => ⟨rfl, rfl, fun _ => rfl, fun c => ⟨rfl, rfl⟩⟩,
    fun s p => ⟨fun r => hostMove_read (.inl ⟨r, rfl⟩) s p, hostMove_read (by simp) s p, hostMove_read (by simp) s p,
      ⟨_, hostMove_read (by simp) s p, activeComponents_nodup s, fun _ _ => mem_activeComponents⟩,
      ⟨_, hostMove_read (by simp) s p, by simp [imageOf, memSize], imageOf_getElem? s⟩⟩,
    fun s u t hd he => ?_, fun s u e hd he => ⟨?_, executeResidue u, ?_⟩⟩
  · rw [cycle, decodeStep_of_hostMove hd, andThen_next, executeStep_of_hostMove he]
  · rw [cycle, decodeStep_of_hostMove hd, andThen_next, he]
  · change afterSubStep (executeResidue u) .between (executeStep u) = _
    rw [he]
    rfl

end Protocol

end Sys2Proof.Machine

/-! PROOFS. The sequencer's statements (40_cycle R136, R154 to R158): the shape of the ROM's programs, the whole next
state of the fetch, and the step as the cycles it is made of. -/

namespace Sys2Proof.Machine

section Fetch

/-! ### The fetch and the instruction it leaves (40_cycle R136, R157) -/

/-- The first cycle of each byte's fetch: PC goes to MAR (40_cycle R136). -/
theorem wordCycle_addressPc {s : State} (hs : s.AtRest) :
    wordCycle (word [.pco, .mai]) s = .next { s with
      mar := s.pc
      alu := s.a + s.x
      aluFlags := aluFlagResult .add s.a s.x
      lastBusValue := s.pc
      microCounter := s.microCounter + 1
      activeWord := word [.pco, .mai] } := by
  rw [wordCycle_eq_moved (c := .reg .pc) hs rfl rfl rfl]
  obtain ⟨-, -, -, -, -, hop, hlatch⟩ := hs
  rw [moved, afterDecode_eq rfl]
  cases s
  simp only at hop hlatch
  subst hop hlatch
  rfl

/-- The second: the cell at MAR goes to IR or OPD, and PC goes up (40_cycle R136). -/
theorem wordCycle_loadAtMar {load : CtrlWord} {d : Reg} {s : State} (hs : s.AtRest)
    (hload : (load, d) ∈ [(word [.mo, .ii, .pcp], Reg.ir), (word [.mo, .oi, .pcp], .opd)]) :
    wordCycle load s = .next { setReg s d (s.read s.mar) with
      pc := s.pc + 1#8
      alu := s.a + s.x
      aluFlags := aluFlagResult .add s.a s.x
      lastBusValue := s.read s.mar
      microCounter := s.microCounter + 1
      activeWord := load } := by
  simp only [List.mem_cons, Prod.mk.injEq, List.not_mem_nil, or_false] at hload
  have ⟨_, _, _, _, _, hop, hlatch⟩ := hs
  rcases hload with ⟨rfl, rfl⟩ | ⟨rfl, rfl⟩ <;>
  · rw [wordCycle_eq_moved (c := .mem) hs rfl rfl rfl, moved, afterDecode_eq rfl]
    cases s
    simp only at hop hlatch
    subst hop hlatch
    rfl

/-- The four fetch cycles, one by one. -/
theorem fetch_eq_afterFetch {s : State} (hs : s.AtRest) (hc : s.microCounter = 0) :
    fetch s = .next (afterFetch (s.read s.pc) (s.read (s.pc + 1#8)) s) := by
  have hwords : fetch s = runWords fetchProgram s := by rw [fetch, hc]; rfl
  have hpc : s.pc + 1#8 + 1#8 = s.pc + 2#8 := BitVec.add_assoc ..
  rw [hwords, fetchProgram, runWords_cons, wordCycle_addressPc hs, andThen_next, runWords_cons,
    wordCycle_loadAtMar (d := .ir) (by exact hs) (by simp), andThen_next, runWords_cons,
    wordCycle_addressPc (by exact hs), andThen_next, runWords_cons,
    wordCycle_loadAtMar (d := .opd) (by exact hs) (by simp), andThen_next, runWords_nil]
  simp only [setReg, hc, hpc]
  rfl

/-- Settles O22: the last fetch word is 0x450, so the state is that of `afterFetch`. -/
theorem fetchProgramEffect : Obligations.FetchProgramEffect :=
  fun _ hs hc => fetch_eq_afterFetch hs hc

/-- A step at the start of an instruction, by the two bytes at PC. -/
theorem step_eq_exec {s : State} (hs : s.AtRest) (hh : s.halted = false) (hc : s.microCounter = 0) :
    step s = exec (decodePair (s.read s.pc) (s.read (s.pc + 1#8)))
      (afterFetch (s.read s.pc) (s.read (s.pc + 1#8)) s) := by
  have hstep : step s = andThen (fetch s) fun t => exec (fetchedInstr t) t := by simp [step, hh, hc]
  rw [hstep, fetch_eq_afterFetch hs hc]
  rfl

/-- Settles O23: decoding is by the pair of bytes, which the fetch leaves in IR and OPD. -/
theorem stepRunsDecodedInstruction : Obligations.StepRunsDecodedInstruction := by
  intro s i hs hh hc hi
  rw [decode_cons_cons] at hi
  cases hi
  exact step_eq_exec hs hh hc

end Fetch

section Rom

/-! ### The rows of the ROM (40_cycle R154; 46_jump R271) -/

/-- The two programs of a conditional jump, as the numbers 46_jump R271 gives. -/
theorem jumpProgram_eq (b : Bool) :
    jumpProgram b = if b = true then [0x00000282#32] else [0x00000002#32] := by cases b <;> rfl

theorem jumpProgram_not (b : Bool) :
    jumpProgram (!b) = if b = true then [0x00000002#32] else [0x00000282#32] := by cases b <;> rfl

/-- Outside 0xA1 to 0xA6 the ROM does not look at the flags (40_cycle R154). -/
theorem rom_eq_of_not_conditional {ir : Byte} (h : ir.toNat < 0xA1 ∨ 0xA6 < ir.toNat) (flg : Byte) :
    rom ir flg = rom ir 0#8 := by
  have hall := rom_of_everyProgram
    (P := fun op p => decide (0xA1 ≤ op.toNat ∧ op.toNat ≤ 0xA6) || decide (p = rom op 0#8)) (by rfl) ir flg
  simp only [Bool.or_eq_true, decide_eq_true_eq] at hall
  exact hall.resolve_left (by omega)

/-- An unassigned opcode has the one-word program `[RST]` (48_misc R303). -/
theorem rom_of_unassigned {ir : Byte} (h : unassigned ir = true) (flg : Byte) : rom ir flg = [0x00000002#32] := by
  have hall := rom_of_everyProgram (P := fun op p => !unassigned op || decide (p = [0x00000002#32])) (by rfl) ir flg
  simpa [h] using hall

theorem transmitters_length_of_romWord {w : CtrlWord} (h : WellFormed.romWord w = true) :
    (transmitters w).length ≤ 1 := by
  simp only [WellFormed.romWord, Bool.and_eq_true, decide_eq_true_eq] at h
  obtain ⟨⟨-, hlen⟩, -⟩ := h
  exact hlen

/-- Settles O21: the ROM's words are fit, and only the last of a program has the reset line; a conditional jump's row is
its condition on the flag bit. -/
theorem romShape : Obligations.RomShape := by
  refine ⟨fun ir flg => ?_, fun ir flg flg' h => ?_, fun ir flg h => rom_of_unassigned h flg, fun flg => ?_⟩
  · obtain ⟨hpos, hlen⟩ := rom_length ir flg
    obtain ⟨init, last, hrom, hrst, hinit⟩ := rom_eq_concat ir flg
    refine ⟨hpos, hlen, fun w hw => ?_, fun w hw => ?_, fun w hw => hinit w ?_⟩
    · obtain ⟨hfit, -⟩ := rom_words_fit ir flg w hw
      exact ⟨(romWord_cases hfit).1, transmitters_length_of_romWord hfit⟩
    · rw [hrom, List.getLast?_concat] at hw
      cases hw
      exact hrst
    · rwa [hrom, List.dropLast_concat] at hw
  · rw [rom_eq_of_not_conditional h flg, rom_eq_of_not_conditional h flg']
  · exact ⟨jumpProgram_eq _, jumpProgram_not _, jumpProgram_eq _, jumpProgram_not _, jumpProgram_eq _,
      jumpProgram_not _⟩

/-- Settles O25: instruction by instruction, the words of its rule are the words of its opcode's row. -/
theorem execRunsRomProgram : Obligations.ExecRunsRomProgram := exec_eq_runProgram_rom

end Rom

section Steps

/-! ### Runs of words as cycles (40_cycle R133, R156) -/

theorem cycles_add (m n : Nat) (s : State) : cycles (m + n) s = andThen (cycles m s) (cycles n) := by
  induction m generalizing s with
  | zero => rw [Nat.zero_add]; rfl
  | succ m ih =>
    rw [Nat.succ_add, cycles, cycles, andThen_assoc]
    congr 1
    funext u
    exact ih u

/-- A run of words is as many cycles when each cycle's decode step chooses the word that is due. -/
theorem runWords_eq_cycles {P : List CtrlWord → State → Prop}
    (hcycle : ∀ w rest u, P (w :: rest) u → cycle u = wordCycle w u)
    (hnext : ∀ w rest u v, P (w :: rest) u → wordCycle w u = .next v → P rest v)
    {ws : List CtrlWord} {s : State} (h : P ws s) : runWords ws s = cycles ws.length s := by
  induction ws generalizing s with
  | nil => rfl
  | cons w rest ih =>
    rw [runWords_cons, List.length_cons, cycles, hcycle w rest s h]
    cases hr : wordCycle w s with
    | next v => exact ih (hnext w rest s v h hr)
    | fault e | refused e => rfl

/-- The word that is due first stands at the place where the rest begins. -/
theorem getElem?_of_cons_eq_drop {α : Type} {l rest : List α} {a : α} {k : Nat} (h : a :: rest = l.drop k) :
    l[k]? = some a ∧ rest = l.drop (k + 1) := by
  rw [← List.head?_drop, ← List.tail_drop, ← h]
  exact ⟨rfl, rfl⟩

/-! ### The fetch words -/

/-- A running machine with the fetch words `ws` still due (40_cycle R136). -/
def FetchDue (ws : List CtrlWord) (s : State) : Prop :=
  s.AtRest ∧ s.halted = false ∧ ws = fetchProgram.drop s.microCounter.val

theorem FetchDue.cycle_eq {w : CtrlWord} {rest : List CtrlWord} {s : State} (h : FetchDue (w :: rest) s) :
    cycle s = wordCycle w s := by
  obtain ⟨-, hh, hws⟩ := h
  obtain ⟨hget, -⟩ := getElem?_of_cons_eq_drop hws
  have hlt : s.microCounter.val < fetchLen := (List.getElem?_eq_some_iff.1 hget).1
  exact cycle_chosen (p := s.microProgram) hh (by rw [chooseWord, if_pos hlt, hget]; rfl)

theorem FetchDue.next {w : CtrlWord} {rest : List CtrlWord} {s t : State} (h : FetchDue (w :: rest) s)
    (ht : wordCycle w s = .next t) : FetchDue rest t := by
  obtain ⟨hs, hh, hws⟩ := h
  obtain ⟨hget, hrest⟩ := getElem?_of_cons_eq_drop hws
  have hlt : s.microCounter.val < fetchLen := (List.getElem?_eq_some_iff.1 hget).1
  obtain ⟨hfit, hhlt, hrst⟩ := fetchProgram_words w (List.mem_of_getElem? hget)
  have post := wordCycle_cyclePost hs hfit (by simp [hhlt]) ht
  refine ⟨post.atRest, (post.halted_eq_hlt hh).trans hhlt, ?_⟩
  have hcounter : t.microCounter.val = s.microCounter.val + 1 := by
    rw [post.counter, hrst]
    simp only [Bool.false_eq_true, if_false, Fin.val_add, Fin.val_one, fetchLen] at hlt ⊢
    omega
  rw [hcounter, hrest]

/-! ### The words of the micro-program -/

/-- A machine with the words `ws` of the program of `ir` and `flg` still due: it runs while there are any, and at
counter 4 it chooses by IR and FLG, later by the cache (40_cycle R135). -/
def ProgramDue (ir flg : Byte) (ws : List CtrlWord) (s : State) : Prop :=
  s.AtRest ∧ (ws ≠ [] →
    s.halted = false ∧ 4 ≤ s.microCounter.val ∧ s.microProgram = rom ir flg ∧
      (s.microCounter.val = 4 → s.ir = ir ∧ s.flg = flg) ∧ ws = (rom ir flg).drop (s.microCounter.val - 4))

theorem ProgramDue.cycle_eq {ir flg : Byte} {w : CtrlWord} {rest : List CtrlWord} {s : State}
    (h : ProgramDue ir flg (w :: rest) s) : cycle s = wordCycle w s := by
  obtain ⟨-, hdue⟩ := h
  obtain ⟨hh, hle, hprog, hfirst, hws⟩ := hdue (by simp)
  obtain ⟨hget, -⟩ := getElem?_of_cons_eq_drop hws
  have hchoice : chooseWord s = some (w, s.microProgram) := by
    have hlt : ¬s.microCounter.val < fetchLen := not_lt.2 hle
    simp only [chooseWord, if_neg hlt]
    split_ifs with heq
    · obtain ⟨rfl, rfl⟩ := hfirst heq
      rw [← hprog] at hget ⊢
      exact Option.map_eq_some_iff.2 ⟨w, hget, rfl⟩
    · rw [← hprog] at hget
      exact Option.map_eq_some_iff.2 ⟨w, hget, rfl⟩
  exact cycle_chosen hh hchoice

theorem ProgramDue.next {ir flg : Byte} {w : CtrlWord} {rest : List CtrlWord} {s t : State}
    (h : ProgramDue ir flg (w :: rest) s) (ht : wordCycle w s = .next t) : ProgramDue ir flg rest t := by
  obtain ⟨hs, hdue⟩ := h
  obtain ⟨hh, hle, hprog, -, hws⟩ := hdue (by simp)
  obtain ⟨hget, hrest⟩ := getElem?_of_cons_eq_drop hws
  have hmem := List.mem_of_getElem? hget
  obtain ⟨hfit, hout⟩ := rom_words_fit ir flg w hmem
  have post := wordCycle_cyclePost hs hfit hout ht
  refine ⟨post.atRest, fun hne => ?_⟩
  have hrst : has .rst w = false := by
    rw [← Bool.not_eq_true, rom_reset_last ir flg hget]
    intro hlast
    exact hne (by rw [hrest, hlast, List.drop_length])
  obtain ⟨hcounter, -⟩ := post.counter_succ hget hrst hle
  refine ⟨(post.halted_eq_hlt hh).trans (hlt_of_not_rst hmem hrst), by omega, post.program.trans hprog, by omega, ?_⟩
  rw [hrest, hcounter]
  congr 1
  omega

/-! ### The step -/

theorem opcode_decodePair (op n : Byte) : (decodePair op n).opcode = op :=
  List.head_eq_of_cons_eq (encode_decodePair op n)

theorem operand_decodePair {op : Byte} (hu : usesOperand op = true) (n : Byte) : (decodePair op n).operand = n := by
  have h := encode_decodePair op n
  simpa [encode, canonicalPair, opcode_decodePair, hu] using h

/-- The state with another micro-program cached. -/
def State.withProgram (p : MicroProgram) (s : State) : State := { s with microProgram := p }

/-- After a fetch the opcode and the operand are latched already: only the micro-program is still to be cached. -/
theorem started_afterFetch (op n : Byte) (s : State) :
    started (decodePair op n) (afterFetch op n s) = (afterFetch op n s).withProgram (rom op s.flg) := by
  have hopd : (if usesOperand op = true then (decodePair op n).operand else n) = n := by
    split_ifs with hu
    · exact operand_decodePair hu n
    · rfl
  rw [started, opcode_decodePair, afterFetch_opd, hopd]
  rfl

/-- The first cycle past the fetch caches the micro-program itself. -/
theorem cycle_withProgram {s : State} (hh : s.halted = false) (hc : s.microCounter.val = 4) (p : MicroProgram) :
    cycle (s.withProgram p) = cycle s := by
  have hchoose : chooseWord (s.withProgram p) = chooseWord s := by
    simp [chooseWord, State.withProgram, hc, fetchLen]
  have hrun : (s.withProgram p).halted = false := hh
  simp only [cycle, decodeStep, hchoose, hrun, hh]
  rfl

/-- Settles O24: each cycle of the fetch, and then each of the program, chooses the word that the step runs next. -/
theorem stepIsItsCycles : Obligations.StepIsItsCycles := by
  intro s hs hh hc
  obtain ⟨hpos, hlen⟩ := rom_length (s.read s.pc) s.flg
  refine ⟨?_, by omega⟩
  have hfetch : cycles 4 s = .next (afterFetch (s.read s.pc) (s.read (s.pc + 1#8)) s) := by
    rw [← fetch_eq_afterFetch hs hc, fetch, runWords_eq_cycles (P := FetchDue) (fun _ _ _ => FetchDue.cycle_eq)
      (fun _ _ _ _ => FetchDue.next) ⟨hs, hh, rfl⟩, hc]
    rfl
  rw [cycles_add, hfetch, andThen_next, step_eq_exec hs hh hc, exec_eq_runWords, started_afterFetch, opcode_decodePair,
    afterFetch_flg]
  have hdue : ProgramDue (s.read s.pc) s.flg (rom (s.read s.pc) s.flg)
      (State.withProgram (rom (s.read s.pc) s.flg) (afterFetch (s.read s.pc) (s.read (s.pc + 1#8)) s)) :=
    ⟨hs, fun _ => ⟨hh, le_rfl, rfl, fun _ => ⟨rfl, rfl⟩, rfl⟩⟩
  rw [runWords_eq_cycles (fun _ _ _ => ProgramDue.cycle_eq) (fun _ _ _ _ => ProgramDue.next) hdue]
  obtain ⟨k, hk⟩ := Nat.exists_eq_add_one.2 hpos
  rw [hk, cycles, cycles, cycle_withProgram (by exact hh) rfl]

end Steps

end Sys2Proof.Machine

/-! PROOFS. The loads' statement (41_load R180 to R184): the whole next state of a cycle that does nothing but move one
byte, and of the programs that such cycles make up. -/

namespace Sys2Proof.Machine

section Carrying

/-! ### Cycles that do nothing but move a byte (40_cycle R139 to R148) -/

/-- The lines with an effect beside the marking: PC, SP and X, the ALU's operation and its flags, the output (40_cycle
R139, R145, R146). -/
def effectLines : List Line :=
  [.pcp, .pcm, .spp, .spm, .spr, .x1, .sub, .or, .xor, .and, .not, .shl, .shr, .alo, .out]

/-- A word whose cycle moves one byte from `c` to `e` and has no other line, but for the reset line. -/
abbrev Carries (w : CtrlWord) (c e : Component) : Prop := Moves w c e ∧ ∀ l ∈ effectLines, has l w = false

/-- `e` has taken the byte of `c`, and the bus copy has it as well (40_cycle R141, R142, R144). -/
def carried (c e : Component) (s : State) : State :=
  { componentTake s e (componentValue s c) with lastBusValue := componentValue s c }

/-- What the cycle of such a word leaves beside the move: the word active, the counter advanced, and in the ALU the sum
of A and X as they were (40_cycle R135, R140, R148). -/
def ticked (w : CtrlWord) (s : State) : State :=
  { s with
    alu := s.a + s.x
    aluFlags := aluFlagResult .add s.a s.x
    activeWord := w
    microCounter := if has .rst w then 0 else s.microCounter + 1 }

/-- Without a line of the immediate effects a decode step computes the sum of A and X, and nothing else. -/
theorem afterDecode_of_effectLines {w : CtrlWord} {s : State} (hs : s.AtRest) (hw : WellFormed.controlWord w = true)
    (h : ∀ l ∈ effectLines, has l w = false) :
    afterDecode w s = { s with alu := s.a + s.x, aluFlags := aluFlagResult .add s.a s.x } := by
  obtain ⟨-, -, -, -, -, hop, hlatch⟩ := hs
  simp only [effectLines, List.forall_mem_cons] at h
  cases s
  simp only at hop hlatch
  subst hop hlatch
  rw [afterDecode_eq hw, selectedOp_eq]
  simp [h, aluResult]

/-- The whole next state of such a cycle, from any state between cycles. -/
theorem wordCycle_eq_carried {w : CtrlWord} {c e : Component} {s : State} (hs : s.AtRest) (hw : Carries w c e) :
    wordCycle w s = .next (carried c e (ticked w s)) := by
  obtain ⟨⟨hfit, hhlt, htx, hrx⟩, hlines⟩ := hw
  have hword := (romWord_cases hfit).1
  have hflg : e ≠ .reg .flg := fun he => flg_not_mem_receivers w (by simp [hrx, he])
  have halo : has .alo w = false := hlines .alo (by decide)
  have hout : has .out w = false := hlines .out (by decide)
  have hdec := afterDecode_of_effectLines hs hword hlines
  have hval : componentValue (afterDecode w s) c = componentValue (ticked w s) c := by
    rw [hdec]
    cases c with
    | reg r => cases r <;> rfl
    | mem => rfl
  have ⟨_, _, _, _, _, hop, hlatch⟩ := hs
  rw [wordCycle_eq_moved hs hword hhlt htx, moved, hval, hdec, hrx]
  simp only [takeAll, halo, hout]
  cases s
  simp only at hop hlatch
  subst hop hlatch
  cases e with
  | mem => rfl
  | reg r =>
    cases r
    case flg => exact absurd rfl hflg
    all_goals rfl

end Carrying

section Loads

/-! ### Programs of one or two moves -/

/-- An instruction whose program moves the operand byte (40_cycle R156). -/
theorem exec_movesOperand {i : Instr} {op : Byte} {w : CtrlWord} {e : Component} {s : State} (hs : s.AtRest)
    (ho : i.opcode = op) (hu : usesOperand op = true) (hp : rom op s.flg = [w]) (hw : Carries w (.reg .opd) e)
    (hr : has .rst w = true) :
    exec i s = .next (carried (.reg .opd) e { leaves op [w] s with opd := i.operand }) := by
  rw [exec_eq_runWords_of_opcode ho, hp, runWords_cons, wordCycle_eq_carried (started_atRest hs i) hw, andThen_next,
    runWords_nil]
  simp only [ticked, started, ho, hu, hp, hr, if_true]
  rfl

/-- An instruction whose program sends the operand byte to MAR and then makes one move, which may be of the cell there
(20_memory R73). -/
theorem exec_movesAtOperand {i : Instr} {op : Byte} {w : CtrlWord} {c e : Component} {s : State} (hs : s.AtRest)
    (ho : i.opcode = op) (hu : usesOperand op = true) (hp : rom op s.flg = [addressFromOperand, w])
    (hw : Carries w c e) (hr : has .rst w = true) :
    exec i s = .next (carried c e { leaves op [addressFromOperand, w] s with
      opd := i.operand, mar := i.operand, lastBusValue := i.operand }) := by
  have haddr : Carries addressFromOperand (.reg .opd) (.reg .mar) := by decide
  have hstart := started_atRest hs i
  have hfirst := wordCycle_eq_carried hstart haddr
  rw [exec_eq_runWords_of_opcode ho, hp, runWords_cons, hfirst, andThen_next, runWords_cons,
    wordCycle_eq_carried (haddr.1.atRest hstart hfirst) hw, andThen_next, runWords_nil]
  simp only [ticked, started, ho, hu, hp, hr, if_true]
  rfl

/-! ### The statement -/

/-- Settles O29: `N` is one move of the operand byte, `$N` its move to MAR and a move of the cell there. -/
theorem loadResult : Obligations.LoadResult := by
  intro n s hs
  refine ⟨?_, ?_, ?_, ?_⟩
  · exact exec_movesOperand (op := 0x10#8) (e := .reg .a) hs rfl rfl rfl (by decide) rfl
  · exact exec_movesOperand (op := 0x11#8) (e := .reg .b) hs rfl rfl rfl (by decide) rfl
  · exact exec_movesAtOperand (op := 0x12#8) (c := .mem) (e := .reg .a) hs rfl rfl rfl (by decide) rfl
  · exact exec_movesAtOperand (op := 0x13#8) (c := .mem) (e := .reg .b) hs rfl rfl rfl (by decide) rfl

end Loads

end Sys2Proof.Machine

/-! PROOFS. The statements of the stores, the moves and swap (42_store_move R190 to R198): programs whose every cycle
moves one byte. -/

namespace Sys2Proof.Machine

section StoresAndMoves

/-! ### Programs of moves, word by word -/

theorem carried_atRest {w : CtrlWord} {c e : Component} {s : State} (hs : s.AtRest) (hw : Carries w c e) :
    (carried c e (ticked w s)).AtRest :=
  hw.1.atRest hs (wordCycle_eq_carried hs hw)

/-- The first word of a run moves its byte, and the rest of the run goes on from there (40_cycle R156). -/
theorem runWords_cons_carried {w : CtrlWord} {c e : Component} {s : State} (hs : s.AtRest) (hw : Carries w c e)
    (rest : List CtrlWord) : runWords (w :: rest) s = runWords rest (carried c e (ticked w s)) := by
  rw [runWords_cons, wordCycle_eq_carried hs hw, andThen_next]

/-- An instruction without an operand whose program is one move (40_cycle R156). -/
theorem exec_moves {i : Instr} {op : Byte} {w : CtrlWord} {c e : Component} {s : State} (hs : s.AtRest)
    (ho : i.opcode = op) (hu : usesOperand op = false) (hp : rom op s.flg = [w]) (hw : Carries w c e)
    (hr : has .rst w = true) :
    exec i s = .next (carried c e (leaves op [w] s)) := by
  rw [exec_eq_runWords_of_opcode ho, hp, runWords_cons_carried (started_atRest hs i) hw, runWords_nil]
  simp only [ticked, started, ho, hu, hp, hr, if_true]
  rfl

/-- `swap` by its three moves: A to X, B to A, X to B (42_store_move R198). -/
theorem exec_swap {s : State} (hs : s.AtRest) :
    exec .swap s = .next (leaves 0x29#8 [0x00012000#32, 0x00009000#32, 0x00024002#32]
      { s with a := s.b, b := s.a, x := s.a, lastBusValue := s.a }) := by
  have hp : rom 0x29#8 s.flg = [0x00012000#32, 0x00009000#32, 0x00024002#32] := rfl
  have hax : Carries 0x00012000#32 (.reg .a) (.reg .x) := by decide
  have hba : Carries 0x00009000#32 (.reg .b) (.reg .a) := by decide
  have hxb : Carries 0x00024002#32 (.reg .x) (.reg .b) := by decide
  have hstart := started_atRest hs .swap
  have hfirst := carried_atRest hstart hax
  have hsecond := carried_atRest hfirst hba
  rw [exec_eq_runWords_of_opcode (op := 0x29#8) rfl, hp, runWords_cons_carried hstart hax,
    runWords_cons_carried hfirst hba, runWords_cons_carried hsecond hxb, runWords_nil]
  rfl

/-! ### The statements -/

/-- Settles O30: the operand byte goes to MAR, and then A or B to the cell there. -/
theorem storeResult : Obligations.StoreResult := by
  intro n s hs
  constructor
  · exact exec_movesAtOperand (op := 0x20#8) (c := .reg .a) (e := .mem) hs rfl rfl rfl (by decide) rfl
  · exact exec_movesAtOperand (op := 0x21#8) (c := .reg .b) (e := .mem) hs rfl rfl rfl (by decide) rfl

/-- Settles O31: each of the six is one move from the source register to the destination, and `swap` is three. -/
theorem moveAndSwapResult : Obligations.MoveAndSwapResult := by
  intro s hs
  refine ⟨?_, ?_, ?_, ?_, ?_, ?_, exec_swap hs⟩
  · exact exec_moves (op := 0x23#8) (c := .reg .a) (e := .reg .b) hs rfl rfl rfl (by decide) rfl
  · exact exec_moves (op := 0x24#8) (c := .reg .a) (e := .reg .x) hs rfl rfl rfl (by decide) rfl
  · exact exec_moves (op := 0x25#8) (c := .reg .b) (e := .reg .a) hs rfl rfl rfl (by decide) rfl
  · exact exec_moves (op := 0x26#8) (c := .reg .b) (e := .reg .x) hs rfl rfl rfl (by decide) rfl
  · exact exec_moves (op := 0x27#8) (c := .reg .x) (e := .reg .a) hs rfl rfl rfl (by decide) rfl
  · exact exec_moves (op := 0x28#8) (c := .reg .x) (e := .reg .b) hs rfl rfl rfl (by decide) rfl

end StoresAndMoves

end Sys2Proof.Machine

/-! PROOFS. The statements of the two-operand ALU instructions (43_alu_binary R210 to R239): the ALU function, the cycle
that computes, and the words before it that bring the second operand into X. -/

namespace Sys2Proof.Machine

section AluFunction

/-! ### The flag byte (10_state R33; 43_alu_binary R210) -/

/-- The flag byte holds the three flags at their places, where they are read, and nothing else. -/
theorem flagByte_flags (z c p : Bool) :
    let f := flagByte (flagAt flagZBit z ||| flagAt flagCBit c ||| flagAt flagPBit p)
    f.toNat = z.toNat + 2 * c.toNat + 4 * p.toNat ∧ zeroFlag f = z ∧ carryFlag f = c := by
  revert z c p; decide

/-- The flags of an ALU computation, as the flag register latches them. -/
theorem flagByte_aluFlagResult (o : AluOp) (a x : Byte) :
    (flagByte (aluFlagResult o a x)).toNat = (aluResult o a x == 0#8).toNat + 2 * (aluCarry o a x).toNat
        + 4 * ((aluResult o a x).getLsbD 0).toNat ∧
      zeroFlag (flagByte (aluFlagResult o a x)) = (aluResult o a x == 0#8) ∧
      carryFlag (flagByte (aluFlagResult o a x)) = aluCarry o a x :=
  flagByte_flags ..

/-- Only an addition can carry (43_alu_binary R210, R237). -/
theorem aluCarry_eq_true (o : AluOp) (a x : Byte) : aluCarry o a x = true ↔ o = .add ∧ 255 < a.toNat + x.toNat := by
  cases o <;> simp [aluCarry]

theorem toNat_getLsbD_zero (v : Byte) : (v.getLsbD 0).toNat = v.toNat % 2 := by
  rw [BitVec.getLsbD, Nat.testBit_zero]
  rcases Nat.mod_two_eq_zero_or_one v.toNat with h | h <;> simp [h]

/-! ### The statements about the function -/

/-- Settles O32: the results by the arithmetic of `BitVec`, the flag byte by its three flags. -/
theorem aluFunction : Obligations.AluFunction := by
  refine ⟨fun a x => ⟨BitVec.toNat_add a x, ?_, ?_, ?_, ?_, fun k => ⟨?_, ?_, ?_⟩⟩, fun o a x => ?_⟩
  · have hsub : (aluResult .sub a x).toNat = (2 ^ 8 - x.toNat + a.toNat) % 2 ^ 8 := BitVec.toNat_sub a x
    omega
  · have hnot : (aluResult .not a x).toNat = 2 ^ 8 - 1 - a.toNat := BitVec.toNat_not
    omega
  · simp [aluResult, Nat.shiftLeft_eq, Nat.mul_comm]
  · simp [aluResult, Nat.shiftRight_eq_div_pow]
  · exact BitVec.getLsbD_or
  · exact BitVec.getLsbD_xor
  · exact BitVec.getLsbD_and
  · obtain ⟨hbyte, -⟩ := flagByte_aluFlagResult o a x
    have hzero : (aluResult o a x == 0#8).toNat = if aluResult o a x = 0#8 then 1 else 0 := by
      split_ifs with h <;> simp [h]
    have hcarry : 2 * (aluCarry o a x).toNat = if o = .add ∧ 255 < a.toNat + x.toNat then 2 else 0 := by
      split_ifs with h
      · rw [(aluCarry_eq_true o a x).2 h]; rfl
      · rw [Bool.eq_false_iff.2 (mt (aluCarry_eq_true o a x).1 h)]; rfl
    rw [hbyte, toNat_getLsbD_zero, hzero, hcarry]

/-- Settles O33: the carry and the zero flag read back from the byte. -/
theorem aluDocumentProperties : Obligations.AluDocumentProperties := by
  refine ⟨?_, fun a x => ?_, fun o a x => ?_⟩
  · rintro o a x _ _ rfl rfl
    exact ⟨rfl, rfl⟩
  · obtain ⟨-, -, hcarry⟩ := flagByte_aluFlagResult .add a x
    simp [hcarry, aluCarry_eq_true]
  · obtain ⟨-, hzero, -⟩ := flagByte_aluFlagResult o a x
    simp [hzero]

end AluFunction

section AluCycles

/-! ### The cycle that computes (43_alu_binary R211) -/

/-- The lines with an effect that no ALU instruction's last word has: the steps of PC and SP, the output. -/
def steppingLines : List Line := [.pcp, .pcm, .spp, .spm, .spr, .out]

/-- A word whose cycle sends the result of operation `o` to A, latches the flags and ends its instruction. -/
abbrev Computes (w : CtrlWord) (o : AluOp) : Prop :=
  Moves w (.reg .alu) (.reg .a) ∧ has .alo w = true ∧ has .rst w = true ∧ selectedOp w .add = o ∧
    ∀ l ∈ steppingLines, has l w = false

/-- X as the ALU sees it in the decode step of `w`: after `X1` (40_cycle R139, R140). -/
def secondOperand (w : CtrlWord) (s : State) : Byte := if has .x1 w then 1#8 else s.x

/-- The whole next state of such a cycle, when its word is the last of the cached micro-program. -/
theorem wordCycle_eq_computed {w : CtrlWord} {o : AluOp} {s : State} (hs : s.AtRest) (hw : Computes w o)
    (hlast : s.microProgram.getLast? = some w) :
    wordCycle w s = .next (computed s.ir s.microProgram o s.a (secondOperand w s)
      { s with x := secondOperand w s }) := by
  obtain ⟨⟨hfit, hhlt, htx, hrx⟩, halo, hrst, hsel, hlines⟩ := hw
  have hword := (romWord_cases hfit).1
  simp only [steppingLines, List.forall_mem_cons] at hlines
  rw [wordCycle_eq_moved hs hword hhlt htx, moved, hrx, afterDecode_eq hword]
  obtain ⟨-, -, -, -, -, hop, hlatch⟩ := hs
  cases s
  simp only at hop hlatch hlast
  subst hop hlatch
  simp [hlines, halo, hrst, hsel, hlast, takeAll, componentTake, componentValue, getReg, setReg, computed, finished,
    secondOperand]

/-- The last word of an operation computes it (43_alu_binary R211). -/
theorem aluLastWord_computes (o : AluOp) : Computes (aluLastWord o) o := by
  cases o <;> decide

/-! ### The second operand (43_alu_binary R239) -/

/-- X as the words of a source leave it, with MAR where the operand is a cell, and OPD where the operand byte `n`
addresses it. -/
def withOperand (src : AluSource) (n : Byte) (s : State) : State :=
  match src with
  | .regB => { s with x := s.b }
  | .regX => s
  | .memN => { s with opd := n, mar := n, x := s.read n }
  | .memB => { s with mar := s.b, x := s.read s.b }
  | .memX => { s with mar := s.x, x := s.read s.x }

/-- The two words that address a cell by a register and bring it into X (20_memory R73; 43_alu_binary R239). -/
theorem runWords_cellToX {addr : CtrlWord} {r : Reg} {s : State} (hs : s.AtRest)
    (haddr : Carries addr (.reg r) (.reg .mar)) :
    runWords [addr, cellToX] s =
      .next (carried .mem (.reg .x) (ticked cellToX (carried (.reg r) (.reg .mar) (ticked addr s)))) := by
  have hcell : Carries cellToX .mem (.reg .x) := by decide
  rw [runWords_cons_carried hs haddr, runWords_cons_carried (carried_atRest hs haddr) hcell, runWords_nil]

/-- The words of a source bring the operand into X, and change beside it only what the last cycle of every ALU
instruction overwrites. -/
theorem runWords_sourcePrefix (src : AluSource) {s : State} (hs : s.AtRest) :
    ∃ result flags bus active counter, runWords (sourcePrefix src) s = .next { withOperand src s.opd s with
      alu := result, aluFlags := flags, lastBusValue := bus, activeWord := active, microCounter := counter } := by
  cases src with
  | regX => exact ⟨_, _, _, _, _, rfl⟩
  | regB =>
    have hmove : Carries (word [.bo, .xi]) (.reg .b) (.reg .x) := by decide
    rw [sourcePrefix, runWords_cons_carried hs hmove, runWords_nil]
    cases s
    exact ⟨_, _, _, _, _, rfl⟩
  | memN =>
    rw [sourcePrefix, runWords_cellToX (r := .opd) hs (by decide)]
    cases s
    exact ⟨_, _, _, _, _, rfl⟩
  | memB =>
    rw [sourcePrefix, runWords_cellToX (r := .b) hs (by decide)]
    cases s
    exact ⟨_, _, _, _, _, rfl⟩
  | memX =>
    rw [sourcePrefix, runWords_cellToX (r := .x) hs (by decide)]
    cases s
    exact ⟨_, _, _, _, _, rfl⟩

/-- An instruction whose micro-program is the words of a source and the last word of an operation (43_alu_binary
R239). -/
theorem exec_binary (o : AluOp) (src : AluSource) {i : Instr} {op : Byte} {s : State} (hs : s.AtRest)
    (ho : i.opcode = op) (hu : usesOperand op = decide (src = .memN))
    (hp : rom op s.flg = sourcePrefix src ++ [aluLastWord o]) :
    exec i s = .next (computed op (sourcePrefix src ++ [aluLastWord o]) o s.a (withOperand src i.operand s).x
      (withOperand src i.operand s)) := by
  obtain ⟨result, flags, bus, active, counter, hlead⟩ := runWords_sourcePrefix src (started_atRest hs i)
  have hx1 : has .x1 (aluLastWord o) = false := by cases o <;> rfl
  have hbegin : withOperand src (started i s).opd (started i s) = { withOperand src i.operand s with
      ir := op, microCounter := 4, microProgram := sourcePrefix src ++ [aluLastWord o] } := by
    cases src <;> simp [started, withOperand, State.read, ho, hu, hp]
  rw [hbegin] at hlead
  rw [exec_eq_runWords_of_opcode ho, hp, runWords_append, hlead, andThen_next, runWords_cons,
    wordCycle_eq_computed (by cases src <;> exact hs) (aluLastWord_computes o) (by simp), andThen_next, runWords_nil]
  simp only [secondOperand, hx1]
  cases src <;> rfl

/-! ### The statements about the instructions -/

/-- Settles O34: the operand is B, which one word copies to X. -/
theorem aluFromRegisterB : Obligations.AluFromRegisterB := fun _ hs =>
  ⟨exec_binary .add .regB hs rfl rfl rfl, exec_binary .sub .regB hs rfl rfl rfl, exec_binary .or .regB hs rfl rfl rfl,
    exec_binary .xor .regB hs rfl rfl rfl, exec_binary .and .regB hs rfl rfl rfl⟩

/-- Settles O35: X is the operand already. -/
theorem aluFromRegisterX : Obligations.AluFromRegisterX := fun _ hs =>
  ⟨exec_binary .add .regX hs rfl rfl rfl, exec_binary .sub .regX hs rfl rfl rfl, exec_binary .or .regX hs rfl rfl rfl,
    exec_binary .xor .regX hs rfl rfl rfl, exec_binary .and .regX hs rfl rfl rfl⟩

/-- Settles O36: the operand byte, latched with the opcode, addresses the cell. -/
theorem aluFromMemoryN : Obligations.AluFromMemoryN := fun _ _ hs =>
  ⟨exec_binary .add .memN hs rfl rfl rfl, exec_binary .sub .memN hs rfl rfl rfl, exec_binary .or .memN hs rfl rfl rfl,
    exec_binary .xor .memN hs rfl rfl rfl, exec_binary .and .memN hs rfl rfl rfl⟩

/-- Settles O37: B addresses the cell. -/
theorem aluFromMemoryAtB : Obligations.AluFromMemoryAtB := fun _ hs =>
  ⟨exec_binary .add .memB hs rfl rfl rfl, exec_binary .sub .memB hs rfl rfl rfl, exec_binary .or .memB hs rfl rfl rfl,
    exec_binary .xor .memB hs rfl rfl rfl, exec_binary .and .memB hs rfl rfl rfl⟩

/-- Settles O38: X addresses the cell before the cell's byte overwrites it. -/
theorem aluFromMemoryAtX : Obligations.AluFromMemoryAtX := fun _ hs =>
  ⟨exec_binary .add .memX hs rfl rfl rfl, exec_binary .sub .memX hs rfl rfl rfl, exec_binary .or .memX hs rfl rfl rfl,
    exec_binary .xor .memX hs rfl rfl rfl, exec_binary .and .memX hs rfl rfl rfl⟩

end AluCycles

end Sys2Proof.Machine

/-! PROOFS. The statements of the one-operand ALU instructions (44_alu_unary R250 to R255): a program of one word, which
computes on A with X as it is, or with the 1 that the word loads into X first. -/

namespace Sys2Proof.Machine

section UnaryAlu

/-! ### Programs of one word that computes -/

/-- An instruction without an operand whose micro-program is one word that computes (44_alu_unary R255). -/
theorem exec_unary {i : Instr} {op : Byte} {w : CtrlWord} {o : AluOp} {s : State} (hs : s.AtRest)
    (ho : i.opcode = op) (hu : usesOperand op = false) (hp : rom op s.flg = [w]) (hw : Computes w o) :
    exec i s = .next (computed op [w] o s.a (secondOperand w s) { s with x := secondOperand w s }) := by
  have hprogram : (started i s).microProgram = [w] := by rw [started, ho, hp]
  have hcycle := wordCycle_eq_computed (started_atRest hs i) hw (by rw [hprogram]; rfl)
  rw [exec_eq_runWords_of_opcode ho, hp, runWords_cons, hcycle, andThen_next, runWords_nil, hprogram]
  simp only [started, ho, hu]
  rfl

/-- Without the line `X1` the ALU sees X as it is, and X is kept (44_alu_unary R250 to R252). -/
theorem exec_unary_keepsX {i : Instr} {op : Byte} {w : CtrlWord} {o : AluOp} {s : State} (hs : s.AtRest)
    (ho : i.opcode = op) (hu : usesOperand op = false) (hp : rom op s.flg = [w]) (hw : Computes w o)
    (hx : has .x1 w = false) : exec i s = .next (computed op [w] o s.a s.x s) := by
  have hsecond : secondOperand w s = s.x := by simp [secondOperand, hx]
  rw [exec_unary hs ho hu hp hw, hsecond]

/-- With the line `X1` the ALU sees the 1 that X is set to in the same decode step, and X stays 1 (44_alu_unary R253,
R254). -/
theorem exec_unary_setsX {i : Instr} {op : Byte} {w : CtrlWord} {o : AluOp} {s : State} (hs : s.AtRest)
    (ho : i.opcode = op) (hu : usesOperand op = false) (hp : rom op s.flg = [w]) (hw : Computes w o)
    (hx : has .x1 w = true) : exec i s = .next (computed op [w] o s.a 1#8 { s with x := 1#8 }) := by
  have hsecond : secondOperand w s = 1#8 := by simp [secondOperand, hx]
  rw [exec_unary hs ho hu hp hw, hsecond]

/-! ### The statements -/

/-- Settles O39: the three are the last words of their operations, none with the line `X1`. -/
theorem notAndShiftResult : Obligations.NotAndShiftResult := by
  intro s hs
  refine ⟨?_, ?_, ?_⟩
  · exact exec_unary_keepsX hs rfl rfl rfl (aluLastWord_computes .not) rfl
  · exact exec_unary_keepsX hs rfl rfl rfl (aluLastWord_computes .shiftLeft) rfl
  · exact exec_unary_keepsX hs rfl rfl rfl (aluLastWord_computes .shiftRight) rfl

/-- Settles O40: the two are an addition and a subtraction whose word has the line `X1` as well. -/
theorem incDecResult : Obligations.IncDecResult := by
  intro s hs
  constructor
  · exact exec_unary_setsX (w := 0x00841002#32) hs rfl rfl rfl (by decide) rfl
  · exact exec_unary_setsX (w := 0x01841002#32) hs rfl rfl rfl (by decide) rfl

end UnaryAlu

end Sys2Proof.Machine

/-! PROOFS. The statement of the output instructions (45_output R261 to R264): a cycle that puts one byte out, alone or
after the move that addresses the byte's cell. -/

namespace Sys2Proof.Machine

section Output

/-! ### The cycle that puts a byte out (40_cycle R145) -/

/-- A word whose cycle puts the byte of `c` out: no receiver, and no effect beside the marking but the output. -/
abbrev PutsOut (w : CtrlWord) (c : Component) : Prop :=
  WellFormed.controlWord w = true ∧ has .hlt w = false ∧ transmitters w = [c] ∧ receivers w = [] ∧
    ∀ l ∈ effectLines, has l w = decide (l = .out)

/-- The byte of `c` has gone out with the selector of the opcode in IR, and the bus copy has it as well (40_cycle R144;
45_output R260). -/
def emitted (c : Component) (s : State) : State :=
  { s with lastBusValue := componentValue s c, out := s.out ++ [(outputSelector s.ir, componentValue s c)] }

/-- The output line has no part in the decode step: its immediate part computes the sum of A and X, and nothing else. -/
theorem afterDecode_of_putsOut {w : CtrlWord} {c : Component} {s : State} (hs : s.AtRest) (hw : PutsOut w c) :
    afterDecode w s = { s with alu := s.a + s.x, aluFlags := aluFlagResult .add s.a s.x } := by
  obtain ⟨hword, -, -, -, hlines⟩ := hw
  obtain ⟨-, -, -, -, -, hop, hlatch⟩ := hs
  simp only [effectLines, List.forall_mem_cons] at hlines
  cases s
  simp only at hop hlatch
  subst hop hlatch
  rw [afterDecode_eq hword, selectedOp_eq]
  simp [hlines, aluResult]

/-- The whole next state of such a cycle, from any state between cycles. -/
theorem wordCycle_eq_emitted {w : CtrlWord} {c : Component} {s : State} (hs : s.AtRest) (hw : PutsOut w c) :
    wordCycle w s = .next (emitted c (ticked w s)) := by
  have hdec := afterDecode_of_putsOut hs hw
  obtain ⟨hword, hhlt, htx, hrx, hlines⟩ := hw
  have halo : has .alo w = false := hlines .alo (by decide)
  have hout : has .out w = true := hlines .out (by decide)
  have ⟨_, _, _, _, _, hop, hlatch⟩ := hs
  rw [wordCycle_eq_moved hs hword hhlt htx, moved, hdec, hrx]
  simp only [takeAll, halo, hout]
  cases s
  simp only at hop hlatch
  subst hop hlatch
  cases c with
  | mem => rfl
  | reg r => cases r <;> rfl

/-! ### Programs that put a byte out -/

/-- An instruction whose program puts the operand byte out (45_output R261 to R263). -/
theorem exec_putsOutOperand {i : Instr} {op : Byte} {w : CtrlWord} {s : State} (hs : s.AtRest)
    (ho : i.opcode = op) (hu : usesOperand op = true) (hp : rom op s.flg = [w]) (hw : PutsOut w (.reg .opd))
    (hr : has .rst w = true) :
    exec i s = .next { leaves op [w] s with
      opd := i.operand, lastBusValue := i.operand, out := s.out ++ [(outputSelector op, i.operand)] } := by
  rw [exec_eq_runWords_of_opcode ho, hp, runWords_cons, wordCycle_eq_emitted (started_atRest hs i) hw, andThen_next,
    runWords_nil]
  simp only [ticked, started, ho, hu, hp, hr, if_true]
  rfl

/-- An instruction whose program sends the operand byte to MAR and then puts the cell there out (45_output R264). -/
theorem exec_putsOutAtOperand {i : Instr} {op : Byte} {w : CtrlWord} {s : State} (hs : s.AtRest)
    (ho : i.opcode = op) (hu : usesOperand op = true) (hp : rom op s.flg = [addressFromOperand, w])
    (hw : PutsOut w .mem) (hr : has .rst w = true) :
    exec i s = .next { leaves op [addressFromOperand, w] s with
      opd := i.operand, mar := i.operand, lastBusValue := s.read i.operand
      out := s.out ++ [(outputSelector op, s.read i.operand)] } := by
  have haddr : Carries addressFromOperand (.reg .opd) (.reg .mar) := by decide
  have hstart := started_atRest hs i
  rw [exec_eq_runWords_of_opcode ho, hp, runWords_cons_carried hstart haddr, runWords_cons,
    wordCycle_eq_emitted (carried_atRest hstart haddr) hw, andThen_next, runWords_nil]
  simp only [ticked, started, ho, hu, hp, hr, if_true]
  rfl

/-! ### The statement -/

/-- Settles O41: the operand byte goes out with the selector that each opcode has in its two low bits, or the cell that
the operand addresses does. -/
theorem outputResult : Obligations.OutputResult := by
  intro n s hs
  refine ⟨?_, ?_, ?_, ?_⟩
  · exact exec_putsOutOperand (op := 0x90#8) hs rfl rfl rfl (by decide) rfl
  · exact exec_putsOutOperand (op := 0x91#8) hs rfl rfl rfl (by decide) rfl
  · exact exec_putsOutOperand (op := 0x92#8) hs rfl rfl rfl (by decide) rfl
  · exact exec_putsOutAtOperand (op := 0x93#8) hs rfl rfl rfl (by decide) rfl

end Output

end Sys2Proof.Machine

/-! PROOFS. The statements of the jumps, call and return (46_jump_call_return R271 to R280): the program that moves
nothing, which is a jump's when not taken, and the cycle that moves SP beside its byte. -/

namespace Sys2Proof.Machine

section Jumps

/-! ### Jumps (46_jump_call_return R270, R271) -/

/-- An instruction with the one-word program `[RST]` changes nothing but what every instruction leaves and the bus copy,
which gets the free value (40_cycle R144; log 5). -/
theorem exec_emptyProgram {i : Instr} {op : Byte} {s : State} (hs : s.AtRest) (ho : i.opcode = op)
    (hp : rom op s.flg = emptyProgram) :
    exec i s = .next { leaves op emptyProgram s with
      opd := if usesOperand op = true then i.operand else s.opd, lastBusValue := s.idleBusValue } := by
  have hword : WellFormed.controlWord (word [.rst]) = true := by decide
  have hlines : ∀ l ∈ effectLines, has l (word [.rst]) = false := by decide
  have hstart := started_atRest hs i
  rw [exec_eq_runWords_of_opcode ho, hp, emptyProgram, runWords_cons,
    wordCycle_eq_idled hstart hword rfl rfl rfl rfl, andThen_next, runWords_nil, idled,
    afterDecode_of_effectLines hstart hword hlines]
  obtain ⟨-, -, -, -, -, hop, hlatch⟩ := hs
  cases s
  simp only at hop hlatch hp
  subst hop hlatch
  simp only [started, ho, hp]
  rfl

/-- A jump whose row of the ROM is the jump on the condition `taken` (46_jump_call_return R271). -/
theorem exec_jump {i : Instr} {op : Byte} {taken : Bool} {s : State} (hs : s.AtRest) (ho : i.opcode = op)
    (hu : usesOperand op = true) (hp : rom op s.flg = jumpProgram taken) :
    exec i s = .next (jumped op taken i.operand s) := by
  cases taken with
  | true => exact exec_movesOperand (e := .reg .pc) hs ho hu hp (by decide) rfl
  | false =>
    rw [exec_emptyProgram hs ho hp, if_pos hu]
    rfl

/-- Settles O42: the row of a conditional jump tests its flag bit, and is the program of `jmp` or the empty one. -/
theorem jumpResult : Obligations.JumpResult := fun _ _ hs =>
  ⟨exec_jump (taken := true) hs rfl rfl rfl, exec_jump hs rfl rfl rfl, exec_jump hs rfl rfl rfl,
    exec_jump hs rfl rfl rfl, exec_jump hs rfl rfl rfl, exec_jump hs rfl rfl rfl, exec_jump hs rfl rfl rfl⟩

end Jumps

section StackCycles

/-! ### Cycles that move SP beside their byte (40_cycle R139) -/

/-- A word whose cycle moves one byte from `c` to `e` and has no other line, but for the reset line and one that moves
SP. -/
abbrev StepsSp (w : CtrlWord) (c e : Component) : Prop :=
  Moves w c e ∧ ∀ l ∈ effectLines, l ≠ .spp → l ≠ .spm → has l w = false

/-- SP as the decode step of `w` moves it, before the byte is transmitted (40_cycle R139). -/
def stepped (w : CtrlWord) (s : State) : State :=
  { s with sp := if has .spp w then s.sp + 1#8 else if has .spm w then s.sp - 1#8 else s.sp }

/-- The step of SP does not reach the ALU, which computes the sum of A and X as in `afterDecode_of_effectLines`. -/
theorem afterDecode_of_stepsSp {w : CtrlWord} {c e : Component} {s : State} (hs : s.AtRest) (hw : StepsSp w c e) :
    afterDecode w s = { stepped w s with alu := s.a + s.x, aluFlags := aluFlagResult .add s.a s.x } := by
  obtain ⟨⟨hfit, -⟩, hlines⟩ := hw
  obtain ⟨-, -, -, -, -, hop, hlatch⟩ := hs
  simp only [effectLines, List.forall_mem_cons] at hlines
  cases s
  simp only at hop hlatch
  subst hop hlatch
  rw [afterDecode_eq (romWord_cases hfit).1, selectedOp_eq]
  simp [hlines, aluResult, stepped]

/-- The whole next state of such a cycle, from any state between cycles: SP has moved when the byte is carried, so a
transmitting SP sends its new value. -/
theorem wordCycle_eq_stepped {w : CtrlWord} {c e : Component} {s : State} (hs : s.AtRest) (hw : StepsSp w c e) :
    wordCycle w s = .next (carried c e (ticked w (stepped w s))) := by
  have hdec := afterDecode_of_stepsSp hs hw
  obtain ⟨⟨hfit, hhlt, htx, hrx⟩, hlines⟩ := hw
  have hflg : e ≠ .reg .flg := fun he => flg_not_mem_receivers w (by simp [hrx, he])
  have halo : has .alo w = false := hlines .alo (by decide) (by decide) (by decide)
  have hout : has .out w = false := hlines .out (by decide) (by decide) (by decide)
  have hval : componentValue (afterDecode w s) c = componentValue (ticked w (stepped w s)) c := by
    rw [hdec]
    cases c with
    | reg r => cases r <;> rfl
    | mem => rfl
  rw [wordCycle_eq_moved hs (romWord_cases hfit).1 hhlt htx, moved, hval, hdec, hrx]
  obtain ⟨-, -, -, -, -, hop, hlatch⟩ := hs
  simp only [takeAll, halo, hout]
  cases s
  simp only at hop hlatch
  subst hop hlatch
  cases e with
  | mem => rfl
  | reg r =>
    cases r
    case flg => exact absurd rfl hflg
    all_goals rfl

theorem stepped_atRest {w : CtrlWord} {c e : Component} {s : State} (hs : s.AtRest) (hw : StepsSp w c e) :
    (carried c e (ticked w (stepped w s))).AtRest :=
  hw.1.atRest hs (wordCycle_eq_stepped hs hw)

/-- The first word of a run moves SP and its byte, and the rest of the run goes on from there (40_cycle R156). -/
theorem runWords_cons_stepped {w : CtrlWord} {c e : Component} {s : State} (hs : s.AtRest) (hw : StepsSp w c e)
    (rest : List CtrlWord) : runWords (w :: rest) s = runWords rest (carried c e (ticked w (stepped w s))) := by
  rw [runWords_cons, wordCycle_eq_stepped hs hw, andThen_next]

end StackCycles

section CallReturn

/-! ### Call and return (46_jump_call_return R279, R280) -/

/-- An instruction without an operand whose program addresses the cell at SP plus one and then moves it to register `d`:
SP goes up before it is transmitted (40_cycle R139; 46_jump_call_return R280; 47_stack R292, R293). -/
theorem exec_pops {i : Instr} {op : Byte} {w : CtrlWord} {d : Reg} {s : State} (hs : s.AtRest) (ho : i.opcode = op)
    (hu : usesOperand op = false) (hp : rom op s.flg = [addressOfPop, w]) (hw : Carries w .mem (.reg d))
    (hr : has .rst w = true) :
    exec i s = .next (carried .mem (.reg d) { leaves op [addressOfPop, w] s with
      mar := s.sp + 1#8, sp := s.sp + 1#8, lastBusValue := s.sp + 1#8 }) := by
  have haddr : StepsSp addressOfPop (.reg .sp) (.reg .mar) := by decide
  have hstart := started_atRest hs i
  rw [exec_eq_runWords_of_opcode ho, hp, runWords_cons_stepped hstart haddr,
    runWords_cons_carried (stepped_atRest hstart haddr) hw, runWords_nil]
  simp only [ticked, started, ho, hu, hp, hr, if_true]
  rfl

/-- Settles O43: the old SP addresses the cell, the address after the instruction goes there as SP goes down, and the
last word is that of a jump. -/
theorem callResult : Obligations.CallResult := by
  intro n s hs
  have ho : (Instr.call n).opcode = 0xA7#8 := rfl
  have hu : usesOperand 0xA7#8 = true := rfl
  have hp : rom 0xA7#8 s.flg = [0x00080004#32, 0x00200108#32, 0x00000282#32] := rfl
  have haddr : Carries 0x00080004#32 (.reg .sp) (.reg .mar) := by decide
  have hpush : StepsSp 0x00200108#32 (.reg .pc) .mem := by decide
  have hrst : has .rst 0x00000282#32 = true := rfl
  have hjump : Carries 0x00000282#32 (.reg .opd) (.reg .pc) := by decide
  have hstart := started_atRest hs (.call n)
  have hfirst := carried_atRest hstart haddr
  have hsecond := stepped_atRest hfirst hpush
  rw [exec_eq_runWords_of_opcode ho, hp, runWords_cons_carried hstart haddr, runWords_cons_stepped hfirst hpush,
    runWords_cons_carried hsecond hjump, runWords_nil]
  simp only [carried, ticked, stepped, started, ho, hu, hp, hrst, if_true]
  rfl

/-- Settles O44: what is popped goes to PC. -/
theorem returnResult : Obligations.ReturnResult := fun _ hs =>
  exec_pops (op := 0xA8#8) (d := .pc) hs rfl rfl rfl (by decide) rfl

/-- Settles O48: `return` reads the slot `call` wrote, since the step of SP up undoes the step down. -/
theorem callThenReturn : Obligations.CallThenReturn := by
  intro n s hs hwf
  refine ⟨_, callResult n s hs, rfl, fun u hu hsp hslot => ?_⟩
  have hback : u.sp + 1#8 = s.sp := by rw [hsp]; exact BitVec.sub_add_cancel ..
  have hbyte : u.read s.sp = s.pc := hslot.trans ((memRead_memWrite hwf s.sp s.pc s.sp).trans (if_pos rfl))
  exact ⟨_, returnResult u hu, (congrArg u.read hback).trans hbyte, hback⟩

end CallReturn

end Sys2Proof.Machine

/-! PROOFS. The statements of the stack instructions (47_stack R290 to R296): the program that pushes a register, the
cycle that sets SP to its top, and the return of a pushed byte. -/

namespace Sys2Proof.Machine

section Stack

/-! ### The program of a push (47_stack R290, R291) -/

/-- With `SPM` alone SP goes one down: no well-formed word carries `SPP` beside it (40_cycle R132, R139). -/
theorem stepped_of_spm {w : CtrlWord} (hw : WellFormed.controlWord w = true) (hm : has .spm w = true) (s : State) :
    stepped w s = { s with sp := s.sp - 1#8 } := by
  obtain ⟨-, hsp, -⟩ := oneStepEach_of_controlWord hw
  have hp : has .spp w = false := by simpa [hm] using hsp
  simp [stepped, hp, hm]

/-- An instruction without an operand whose program sends SP to MAR and then register `r` to the cell there, as SP goes
down: MAR keeps the old SP, so the cell is the one at the old SP (40_cycle R139; 47_stack R290, R291). -/
theorem exec_pushes {i : Instr} {op : Byte} {w : CtrlWord} {r : Reg} {s : State} (hs : s.AtRest) (ho : i.opcode = op)
    (hu : usesOperand op = false) (hp : rom op s.flg = [addressOfPush, w]) (hw : StepsSp w (.reg r) .mem)
    (hm : has .spm w = true) (hr : has .rst w = true) :
    exec i s = .next (carried (.reg r) .mem { leaves op [addressOfPush, w] s with
      mar := s.sp, sp := s.sp - 1#8, lastBusValue := s.sp }) := by
  have haddr : Carries addressOfPush (.reg .sp) (.reg .mar) := by decide
  have hstart := started_atRest hs i
  have hword : WellFormed.controlWord w = true := (romWord_cases hw.1.1).1
  rw [exec_eq_runWords_of_opcode ho, hp, runWords_cons_carried hstart haddr,
    runWords_cons_stepped (carried_atRest hstart haddr) hw, runWords_nil, stepped_of_spm hword hm]
  simp only [ticked, started, ho, hu, hp, hr, if_true]
  rfl

/-! ### The cycle that sets SP to its top (47_stack R294) -/

/-- The decode step of the word of `stkrest` sets SP to STACK_TOP and computes the sum of A and X (40_cycle R139, R140). -/
theorem afterDecode_of_spReset {s : State} (hs : s.AtRest) :
    afterDecode (word [.spr, .rst]) s =
      { s with sp := stackTop, alu := s.a + s.x, aluFlags := aluFlagResult .add s.a s.x } := by
  obtain ⟨-, -, -, -, -, hop, hlatch⟩ := hs
  cases s
  simp only at hop hlatch
  subst hop hlatch
  rw [afterDecode_eq rfl]
  rfl

/-! ### A pushed byte (47_stack R296) -/

/-- One step up from the SP that a push leaves is the slot it wrote; where the slot still reads as the push left it, the
byte there is the pushed one. -/
theorem popped_of_pushed {s u : State} {v : Byte} (hwf : s.mem.wf = true) (hsp : u.sp = s.sp - 1#8)
    (hslot : u.read s.sp = (s.write s.sp v).read s.sp) : u.sp + 1#8 = s.sp ∧ u.read (u.sp + 1#8) = v := by
  have hback : u.sp + 1#8 = s.sp := by rw [hsp]; exact BitVec.sub_add_cancel ..
  have hbyte : (s.write s.sp v).read s.sp = v := (memRead_memWrite hwf s.sp v s.sp).trans (if_pos rfl)
  exact ⟨hback, by rw [hback, hslot, hbyte]⟩

/-! ### The statements -/

/-- Settles O45: the two pushes differ in the register alone. -/
theorem pushResult : Obligations.PushResult := fun _ hs =>
  ⟨exec_pushes (r := .a) hs rfl rfl rfl (by decide) rfl rfl, exec_pushes (r := .b) hs rfl rfl rfl (by decide) rfl rfl⟩

/-- Settles O46: what is popped goes to A or to B. -/
theorem popResult : Obligations.PopResult := fun _ hs =>
  ⟨exec_pops (d := .a) hs rfl rfl rfl (by decide) rfl, exec_pops (d := .b) hs rfl rfl rfl (by decide) rfl⟩

/-- Settles O47: the one cycle of `stkrest` moves nothing, and SP gets its top in the decode step. -/
theorem stkrestResult : Obligations.StkrestResult := by
  intro s hs
  have ho : Instr.stkrest.opcode = 0xB4#8 := rfl
  have hp : rom 0xB4#8 s.flg = [word [.spr, .rst]] := rfl
  have hstart := started_atRest hs .stkrest
  rw [exec_eq_runWords_of_opcode ho, hp, runWords_cons, wordCycle_eq_idled hstart rfl rfl rfl rfl rfl, andThen_next,
    runWords_nil, idled, afterDecode_of_spReset hstart]
  obtain ⟨-, -, -, -, -, hop, hlatch⟩ := hs
  cases s
  simp only at hop hlatch
  subst hop hlatch
  rfl

/-- Settles O49: the pop reads the slot the push wrote and takes SP back. -/
theorem pushThenPop : Obligations.PushThenPop := by
  intro s hs hwf
  obtain ⟨hpushA, hpushB⟩ := pushResult s hs
  refine ⟨⟨_, hpushA, fun u hu hsp hslot => ?_⟩, _, hpushB, fun u hu hsp hslot => ?_⟩
  · obtain ⟨hback, hbyte⟩ := popped_of_pushed (v := s.a) hwf hsp hslot
    exact ⟨_, (popResult u hu).1, hbyte, hback⟩
  · obtain ⟨hback, hbyte⟩ := popped_of_pushed (v := s.b) hwf hsp hslot
    exact ⟨_, (popResult u hu).2, hbyte, hback⟩

end Stack

end Sys2Proof.Machine

/-! PROOFS. The statements of `noop`, `halt` and the unassigned opcodes (48_misc_noop_halt_unassigned R300 to R303): the
program that moves nothing, and the cycle of the halt word. -/

namespace Sys2Proof.Machine

section Misc

/-- The program of an unassigned opcode has no word that could use the operand byte (30_encoding R102, R112). -/
theorem usesOperand_of_unassigned {op : Byte} (h : unassigned op = true) : usesOperand op = false := by
  have hall := rom_of_everyProgram (P := fun op _ => !unassigned op || !usesOperand op) (by rfl) op 0#8
  simpa [h] using hall

/-- Settles O51: the program of every one of them is `[RST]`, and none uses its operand byte. -/
theorem noopAndUnassignedResult : Obligations.NoopAndUnassignedResult := by
  intro i s hi hs
  have hrow : rom i.opcode s.flg = emptyProgram ∧ usesOperand i.opcode = false := by
    rcases hi with rfl | hi
    · exact ⟨rfl, rfl⟩
    · exact ⟨rom_of_unassigned hi s.flg, usesOperand_of_unassigned hi⟩
  obtain ⟨hp, hu⟩ := hrow
  rw [exec_emptyProgram hs rfl hp, hu]
  rfl

/-- Settles O52: the decode step of the halt word stops before the ALU, and its execute step resets the counter. -/
theorem haltResult : Obligations.HaltResult := by
  intro s hs
  have ho : Instr.halt.opcode = 0x01#8 := rfl
  have hp : rom 0x01#8 s.flg = [word [.hlt, .rst]] := rfl
  rw [exec_eq_runWords_of_opcode ho, hp, runWords_cons, wordCycle_eq_halting (started_atRest hs .halt) rfl rfl rfl,
    andThen_next, runWords_nil]
  rfl

end Misc

end Sys2Proof.Machine

/-! PROOFS. The exceptions' statements (60_exceptions R311 to R320): no run of the machine fails, which errors a cycle
driven by any word can raise and which component they name, and the host's loading of an image. -/

namespace Sys2Proof.Machine

section Progress

/-! ### Runs that cannot fail (60_exceptions R320) -/

/-- The decode step finds a word: the fetch program has one for each counter up to 3, the ROM one for counter 4, and the
invariant of the cached program one past it (40_cycle R135, R159). -/
theorem chooseWord_isSome {s : State} (hc : s.CachedWell) : (chooseWord s).isSome = true := by
  rcases lt_trichotomy s.microCounter.val 4 with hlt | heq | hgt
  · have hin : s.microCounter.val < fetchProgram.length := hlt
    simp [chooseWord, fetchLen, hlt, hin]
  · obtain ⟨hpos, -⟩ := rom_length s.ir s.flg
    simp [chooseWord, fetchLen, heq, Nat.lt_of_succ_le hpos]
  · obtain ⟨-, -, -, hin⟩ := hc hgt
    simp [chooseWord, fetchLen, hgt.not_gt, hgt.ne', hin]

/-- The word that a decode step chooses is fit for a cycle from any state between cycles (40_cycle R136, R154). -/
theorem chooseWord_fit {s : State} {w : CtrlWord} {p : MicroProgram} (hc : s.CachedWell)
    (h : chooseWord s = some (w, p)) : Fit w := by
  rcases chooseWord_cases hc h with ⟨-, hmem, -⟩ | ⟨-, ir, flg, -, -, hget⟩
  · exact fetchProgram_fit w hmem
  · exact rom_words_fit ir flg w (List.mem_of_getElem? hget)

/-- Settles O5: a halted machine's cycle is that of the halt word, any other that of a fit word. -/
theorem cycleNeverFails : Obligations.CycleNeverFails := by
  intro s hs
  obtain ⟨hrest, -, -, hhalt, hcached⟩ := hs
  by_cases hh : s.halted = true
  · rw [cycle_eq_wordCycle_of_halted hh (hhalt hh).1 rfl rfl]
    exact ⟨_, wordCycle_eq_halting hrest rfl rfl rfl⟩
  · rw [Bool.not_eq_true] at hh
    obtain ⟨⟨w, p⟩, hchoice⟩ := Option.isSome_iff_exists.1 (chooseWord_isSome hcached)
    obtain ⟨hfit, hout⟩ := chooseWord_fit hcached hchoice
    obtain ⟨t, ht, -⟩ := wordCycle_post (s := { s with microProgram := p }) hrest hfit hout
    exact ⟨t, by rw [cycle_chosen hh hchoice, ht]⟩

theorem finishInstruction_next (fuel : Nat) {s : State} (hs : s.CycleInv) :
    ∃ t, finishInstruction fuel s = .next t := by
  induction fuel generalizing s with
  | zero => exact ⟨s, rfl⟩
  | succ fuel ih =>
    obtain ⟨u, hu⟩ := cycleNeverFails s hs
    rw [finishInstruction, hu, andThen_next]
    split_ifs
    · exact ⟨u, rfl⟩
    · exact ih (cycleKeepsInvariant s u hs hu)

/-- Settles O6: a halted machine's cycle, the fetch and the instruction it leaves, and the rest of a cached program all
succeed. -/
theorem stepAlwaysCompletes : Obligations.StepAlwaysCompletes := by
  intro s hs
  have ⟨hrest, hwf, hflags, _, _⟩ := hs
  unfold step
  split_ifs with hh hc
  · exact cycleNeverFails s hs
  · obtain ⟨u, hu⟩ := fetch_next hrest
    obtain ⟨hurest, -⟩ := fetch_running hrest ⟨hwf, hflags, by simpa using hh⟩ hu
    rw [hu, andThen_next]
    exact exec_next hurest (fetchedInstr u)
  · exact finishInstruction_next 8 hs

end Progress

section Errors

/-! ### The errors that a cycle can raise (60_exceptions R311, R316, R329) -/

theorem transfer_busError {s : State} {e : Fault} (h : transfer s = .fault e) : BusError e := by
  simp only [transfer, andThen_eq_fault] at h
  rcases h with h | ⟨u, -, h | ⟨v, -, h⟩⟩
  · exact resolveAll_fault h
  · exact resolveAll_fault h
  · cases h

/-- An execute step can fail in the transfer or at the output, where the bus is read or written (40_cycle R141,
R145). -/
theorem executeStep_busError {s : State} {e : Fault} (h : executeStep s = .fault e) : BusError e := by
  simp only [executeStep, andThen_eq_fault] at h
  rcases h with h | ⟨u, -, h | ⟨v, -, h⟩⟩
  · exact transfer_busError h
  · exact output_busError h
  · cases h

/-- A decode step raises no error (40_cycle R138). -/
theorem decodeStep_ne_fault (s : State) (e : Fault) : decodeStep s ≠ .fault e := by
  unfold decodeStep
  split_ifs
  · simp
  · split
    · simp
    · exact decodeWord_ne_fault _ _ e

theorem wordCycle_busError {w : CtrlWord} {s : State} {e : Fault} (h : wordCycle w s = .fault e) : BusError e := by
  rcases andThen_eq_fault.1 h with h | ⟨u, -, h⟩
  · exact absurd h (decodeWord_ne_fault w s e)
  · exact executeStep_busError h

theorem cycle_busError {s : State} {e : Fault} (h : cycle s = .fault e) : BusError e := by
  rcases andThen_eq_fault.1 h with h | ⟨u, -, h⟩
  · exact absurd h (decodeStep_ne_fault s e)
  · exact executeStep_busError h

theorem runWords_busError {ws : List CtrlWord} {s : State} {e : Fault} (h : runWords ws s = .fault e) : BusError e := by
  induction ws generalizing s with
  | nil => cases h
  | cons w rest ih =>
    rw [runWords_cons, andThen_eq_fault] at h
    rcases h with h | ⟨u, -, h⟩
    · exact wordCycle_busError h
    · exact ih h

theorem finishInstruction_busError {fuel : Nat} {s : State} {e : Fault} (h : finishInstruction fuel s = .fault e) :
    BusError e := by
  induction fuel generalizing s with
  | zero => cases h
  | succ fuel ih =>
    rw [finishInstruction, andThen_eq_fault] at h
    rcases h with h | ⟨u, -, h⟩
    · exact cycle_busError h
    · split_ifs at h
      exact ih h

/-- A step is made of cycles, whichever of its three kinds it is (40_cycle R156). -/
theorem step_busError {s : State} {e : Fault} (h : step s = .fault e) : BusError e := by
  unfold step at h
  split_ifs at h
  · exact cycle_busError h
  · rcases andThen_eq_fault.1 h with h | ⟨u, -, h⟩
    · exact runWords_busError h
    · rw [exec_eq_runWords] at h
      exact runWords_busError h
  · exact finishInstruction_busError h

/-- Settles O10: the errors of a cycle come from its bus transfer or its output, and a step's from its cycles. -/
theorem onlyBusErrorsFromCycles : Obligations.OnlyBusErrorsFromCycles :=
  ⟨fun _ _ _ => wordCycle_busError, fun _ _ => step_busError⟩

/-! ### Which component an error names (60_exceptions R312, R313, R319) -/

/-- Settles O11: the first two transmitters are different components, and the second finds the first one's byte on the
bus. -/
theorem secondTransmitterConflicts : Obligations.SecondTransmitterConflicts := by
  intro w s c c' rest hs hw hh ht
  have ⟨hb, _, _, htx, _, _, _⟩ := hs
  have hne : c' ≠ c := by
    rintro rfl
    simpa [ht] using transmitters_nodup w
  have hpending : ∀ d ∈ transmitters w, pendingOf (decoded w s).pending d = .transmit := fun d hd => by
    rw [pendingOf_decoded hs hw, if_pos hd]
  rw [wordCycle, decodeWord_next hw hh, andThen_next]
  exact executeStep_conflict (by simpa [htx] using ht) hne (hpending c (by simp [ht])) (hpending c' (by simp [ht]))
    (by simpa using hb)

/-- Settles O12: with no transmitter the bus is empty when the first receiver reads it, or else the output. -/
theorem receiverWithoutTransmitterFails : Obligations.ReceiverWithoutTransmitterFails := by
  intro w s hs hw hh ht
  have ⟨hb, _, _, htx, hrx, _, _⟩ := hs
  have htxw : (decoded w s).txList = [] := by simpa [htx] using ht
  rw [wordCycle, decodeWord_next hw hh, andThen_next]
  refine ⟨fun c rest hr => ?_, fun hr ho => ?_⟩
  · have hc : pendingOf (decoded w s).pending c = .receive := by rw [pendingOf_decoded hs hw]; simp [ht, hr]
    exact executeStep_unwritten_receiver htxw (by simpa [hrx] using hr) hc (by simpa using hb)
  · exact executeStep_unwritten_output htxw (by simpa [hrx] using hr) (by simpa using hb) (by simpa using ho)

end Errors

section Images

/-! ### Loading an image (60_exceptions R315; 20_memory R88) -/

/-- An image holds its bytes in order from `low` on: a listed byte at its address, an unlisted one by its absence. -/
theorem readCell_imageFrom {low k : Nat} {bytes : List Byte} (h : low + bytes.length ≤ memSize)
    (hk : k < bytes.length) :
    bytes[k]? = some (readCell (imageFrom low bytes) (low + k)) := by
  induction bytes generalizing low k with
  | nil => simp at hk
  | cons v rest ih =>
    rw [List.length_cons] at h hk
    have hrest : low + 1 + rest.length ≤ memSize := by omega
    have hbelow : readCell (imageFrom (low + 1) rest) low = unlistedByte :=
      readCell_below (canonicalFrom_imageFrom hrest) (Nat.lt_succ_self low)
    cases k with
    | zero => by_cases hv : v = unlistedByte <;> simp [imageFrom, readCell, hv, hbelow]
    | succ k =>
      have hnext : low + (k + 1) = low + 1 + k := by omega
      have hne : ¬low = low + 1 + k := by omega
      have hbyte := ih hrest (k := k) (by omega)
      by_cases hv : v = unlistedByte <;> simpa [imageFrom, readCell, hv, hnext, hne] using hbyte

theorem image_of_length {bytes : List Byte} : WellFormed.image bytes = true ↔ bytes.length = 256 := by
  simp [WellFormed.image, memSize]

theorem not_busError_sizeMismatch (k : Nat) : ¬BusError (.sizeMismatch k) := by
  rintro (⟨c, hc⟩ | ⟨c, hc⟩) <;> cases hc

/-- Settles O58: an image of 256 bytes reads back byte by byte; the check of its length is before anything else; the
cycles' errors are those of the bus. -/
theorem loadImageReplacesMemoryOrFails : Obligations.LoadImageReplacesMemoryOrFails := by
  refine ⟨fun bytes s hlen => ?_, fun bytes s hlen => ?_, fun s k => ⟨fun h => ?_, fun h => ?_⟩⟩
  · have himage : WellFormed.image bytes = true := image_of_length.2 hlen
    refine ⟨{ s with mem := imageFrom 0 bytes }, ?_, fun addr => ?_, imageFrom_wf himage, rfl⟩
    · simp [hostMove, moveBetween, loadImage, himage]
    · have haddr : addr.toNat < bytes.length := hlen ▸ addr.isLt
      have hbyte := readCell_imageFrom (low := 0) (by simp [hlen, memSize]) haddr
      rwa [Nat.zero_add] at hbyte
  · have himage : ¬WellFormed.image bytes = true := mt image_of_length.1 hlen
    simp [hostMove, moveBetween, loadImage, himage]
  · exact not_busError_sizeMismatch k (cycle_busError h)
  · exact not_busError_sizeMismatch k (step_busError h)

end Images

end Sys2Proof.Machine

/-! PROOFS. The statement of the host's reset (70_reset_and_hazards R340; 60_exceptions R318). -/

namespace Sys2Proof.Machine

section HostReset

/-- Settles O57: reset is a move between cycles, also of a machine inside an instruction or halted, and the one move of
a machine that an error stopped. -/
theorem hostResetRestoresState : Obligations.HostResetRestoresState := by
  intro s p hp
  cases p with
  | between => rfl
  | marked => exact absurd rfl hp
  | dead e => rfl

end HostReset

end Sys2Proof.Machine
